-- ==== Sys2Proof/Word.lean ====
section
/-! DEFINITION. The word types of the HashLib CORE (R8, R9 of spec/00_scope.md): every value is an unsigned integer of a
stated width, arithmetic is modulo 2^N (so `BitVec` addition, subtraction and multiplication), and there is no sign
extension anywhere. -/

namespace Sys2Proof

/-- u8: one byte of a message, a key, a block or a digest. -/
abbrev Byte := BitVec 8

/-- u32: the host data word (R6) and the words of MD5, RIPEMD-160, CRC-32 and MurmurHash3. -/
abbrev Word := BitVec 32

/-- u64: the lanes and words of the 64-bit engines, SEED and MLEN. -/
abbrev DWord := BitVec 64

/-- The 38-bit host transaction record HT (R130): bit 37 is WE, bits 36:32 are WIDX, bits 31:0 are WDATA. -/
abbrev HT := BitVec 38

end Sys2Proof
end

