-- ==== Sys2Proof/Machine/Bytes.lean ====
section
/-! DEFINITION. The notation of spec/00_scope.md, section 4: rotations (R10), byte sequences, little- and big-endian words
and their serializations (R11), and hexadecimal rendering (R13). -/

namespace Sys2Proof.Machine

/-- rotl_N(x, n) (R10). -/
def rotl {w : Nat} (x : BitVec w) (n : Nat) : BitVec w :=
  if n = 0 then x else (x <<< n) ||| (x >>> (w - n))

/-- rotr_N(x, n) (R10). -/
def rotr {w : Nat} (x : BitVec w) (n : Nat) : BitVec w :=
  if n = 0 then x else rotl x (w - n)

/-- zeros(n) (R11). -/
def zeros (n : Nat) : List Byte := List.replicate n 0#8

/-- B[a..b) (R11). -/
def slice (B : List Byte) (a b : Nat) : List Byte := (B.drop a).take (b - a)

/-- B[i]; the spec never reads past the end, where this reads 0 (log entry 17). -/
def byteAt (B : List Byte) (i : Nat) : Byte := B.getD i 0#8

/-- LE_N(B, o) (R11): byte o + k enters at bit 8k. -/
def leRead (N : Nat) (B : List Byte) (o : Nat) : BitVec N :=
  (List.range (N / 8)).foldl (fun acc k => acc + ((byteAt B (o + k)).setWidth N <<< (8 * k))) 0

/-- BE_N(B, o) (R11): byte o + k enters at bit 8(N/8 - 1 - k). -/
def beRead (N : Nat) (B : List Byte) (o : Nat) : BitVec N :=
  (List.range (N / 8)).foldl (fun acc k => acc + ((byteAt B (o + k)).setWidth N <<< (8 * (N / 8 - 1 - k)))) 0

/-- leb_N(v) (R11): the N/8 bytes of v, lowest first. -/
def leBytes {N : Nat} (v : BitVec N) : List Byte :=
  (List.range (N / 8)).map fun k => v.extractLsb' (8 * k) 8

/-- beb_N(v) (R11): the N/8 bytes of v, highest first. -/
def beBytes {N : Nat} (v : BitVec N) : List Byte :=
  (List.range (N / 8)).map fun k => v.extractLsb' (8 * (N / 8 - 1 - k)) 8

/-- The words of a register file serialized one after another, each little-endian. -/
def leSerialize {N n : Nat} (h : Vector (BitVec N) n) : List Byte := h.toList.flatMap leBytes

/-- The words of a register file serialized one after another, each big-endian. -/
def beSerialize {N n : Nat} (h : Vector (BitVec N) n) : List Byte := h.toList.flatMap beBytes

/-- The first n bytes of a byte sequence as a buffer of n bytes, zero-filled. -/
def toBuffer (n : Nat) (B : List Byte) : Vector Byte n := Vector.ofFn fun i => byteAt B i.val

/-- The N-bit words X[k] <- LE_N(B, (N/8)·k) for k in 0..count. -/
def leWords (N count : Nat) (B : List Byte) : List (BitVec N) :=
  (List.range count).map fun k => leRead N B (N / 8 * k)

/-- The N-bit words BE_N(B, (N/8)·k) for k in 0..count. -/
def beWords (N count : Nat) (B : List Byte) : List (BitVec N) :=
  (List.range count).map fun k => beRead N B (N / 8 * k)

/-- One lowercase hexadecimal digit. -/
def hexDigit (n : Nat) : Char := "0123456789abcdef".toList.getD n '?'

/-- hex(D) (R13): two lowercase digits per byte, most significant nibble first, in body order. -/
def hex (D : List Byte) : String :=
  String.ofList (D.flatMap fun b => [hexDigit (b.toNat / 16), hexDigit (b.toNat % 16)])

end Sys2Proof.Machine
end

