-- ==== Sys2Proof/Config.lean ====
section
/-! DEFINITION. What the spec leaves to the platform (R7 of spec/00_scope.md; U6 and U7 of
spec/93_implementation_defined.md) and the free values of the model (U3). Every constant here is opaque: nothing can be
proved about its value. -/

namespace Sys2Proof

/-- CORE_BASE, the platform address of word slot 0 (R7, U6). No rule depends on it. Log entry 11. -/
opaque Config.coreBase : Nat

/-- LAT(cmd, state), the clock cycles the port stalls on a transaction (R7, R706, U7). No rule depends on it, and no
meaning of this model reads it. Log entry 11. -/
opaque Config.lat {σ : Type} (ht : HT) (s : σ) : Nat

/-- The n-th free 32-bit value: the read data of a transaction cut short by reset, which the spec leaves undefined
(R701, U3). Log entry 4. -/
opaque Config.freeWord (n : Nat) : Word

end Sys2Proof
end

