-- ==== Sys2Proof/Syntax.lean ====
section
/-! DEFINITION. The host transactions as syntax: one constructor per row of spec/opcode_table.json (R134 of
spec/30_encoding.md), with the operands of R132, and what the decoder of R136 can answer. -/

namespace Sys2Proof

/-- The eleven algorithms, in the order of their ids 0 to 10 (R57 of spec/10_state.md). -/
inductive Alg where
  | md5 | sha512 | sha3_256 | blake2b | ripemd160 | tiger192 | crc16 | crc32 | crc64 | murmur3_32 | xxh64
deriving DecidableEq, Repr

/-- A legal host transaction. Commands are writes to CMD (WE = 1, WIDX = 0). -/
inductive Instr where
  /-- NOP (R202). -/
  | nop
  /-- INIT ALGF, OL (R203): start a computation; `ol` = 0 takes the default digest length (R133). -/
  | init (alg : Alg) (ol : BitVec 7)
  /-- LDSEED K, IMM16 (R204). -/
  | ldseed (k : BitVec 2) (imm16 : BitVec 16)
  /-- LDKEY B0 (R205). -/
  | ldkey (b0 : Byte)
  /-- CLRKEY (R206). -/
  | clrkey
  /-- ABSORB1 B0 (R208). -/
  | absorb1 (b0 : Byte)
  /-- ABSORB2 B0, B1 (R209). -/
  | absorb2 (b0 b1 : Byte)
  /-- ABSORB3 B0, B1, B2 (R210). -/
  | absorb3 (b0 b1 b2 : Byte)
  /-- FINAL (R212). -/
  | final
  /-- WR DIN, w (R211). -/
  | wrDin (w : Word)
  /-- RD STATUS (R213). -/
  | rdStatus
  /-- RD MLEN0 (R214). -/
  | rdMlen0
  /-- RD MLEN1 (R214). -/
  | rdMlen1
  /-- RD SEED0 (R215). -/
  | rdSeed0
  /-- RD SEED1 (R215). -/
  | rdSeed1
  /-- RD DOUTi (R216), i = WIDX - 16. -/
  | rdDout (i : BitVec 4)
deriving DecidableEq, Repr

/-- What the decoder answers (R135, R136): every 38-bit record is exactly one of these. -/
inductive Decoded where
  /-- A legal transaction. -/
  | instr (i : Instr)
  /-- A write to CMD whose word is no legal command: it raises E_ILLEGAL (R603). -/
  | illegal
  /-- A (WE, WIDX) pair that is no transaction: it raises E_BUS (R217, R602). -/
  | busErr
deriving DecidableEq, Repr

end Sys2Proof
end

