-- ==== Sys2Proof/Machine/State.lean ====
section
/-! DEFINITION. The state of the HashLib CORE as plain data: everything spec/10_state.md gives the machine (sections 3, 4
and 5), and the model's own fields for the host's side of the port. INVENTORY.md lists each with its rule. -/

namespace Sys2Proof.Machine

/-- PHASE (R55). Value 3 never occurs (R54). -/
inductive Phase where
  | idle | active | done
deriving DecidableEq, Repr

/-- ERR (R56, R601). Codes 6 to 15 are never written. -/
inductive Err where
  /-- 0: no error since the last successful INIT or reset. -/
  | none
  /-- 1: E_BUS. -/
  | bus
  /-- 2: E_ILLEGAL. -/
  | illegal
  /-- 3: E_SEQ. -/
  | seq
  /-- 4: E_KEY. -/
  | key
  /-- 5: E_LEN. -/
  | len
deriving DecidableEq, Repr

/-- The datapath of an engine that compresses a block as soon as its buffer is full (R64, R265): the chaining state, the
block buffer BUF of `cap` bytes and the fill count FILL. -/
structure EagerRegs (σ : Type) (cap : Nat) where
  chain : σ
  buf : Vector Byte cap
  fill : Nat
deriving DecidableEq, Repr

/-- The BLAKE2b datapath (R64, R399): one full block may be held back, and T counts the bytes compressed. -/
structure Blake2bRegs where
  h : Vector DWord 8
  t : BitVec 128
  buf : Vector Byte 128
  fill : Nat
deriving DecidableEq, Repr

/-- Tiger's three registers (R460). -/
structure TigerRegs where
  a : DWord
  b : DWord
  c : DWord
deriving DecidableEq, Repr

/-- The datapath registers of all eleven engines (R64). Only those of the engine ALG names hold meaningful state. -/
structure Datapath where
  md5 : EagerRegs (Vector Word 4) 64
  sha512 : EagerRegs (Vector DWord 8) 128
  sha3 : EagerRegs (Vector DWord 25) 136
  blake2b : Blake2bRegs
  ripemd160 : EagerRegs (Vector Word 5) 64
  tiger : EagerRegs TigerRegs 64
  crc16 : BitVec 16
  crc32 : Word
  crc64 : DWord
  murmur3 : EagerRegs Word 4
  xxh64 : EagerRegs (Vector DWord 4) 32
deriving DecidableEq, Repr

/-- What reaches the core from outside: a host transaction (R130), a reset between two transactions (R700), or a reset
asserted while the port is stalled on a transaction, which is then abandoned (R701). -/
inductive HostEvent where
  | transaction (ht : HT)
  | reset
  | resetDuring (ht : HT)
deriving DecidableEq, Repr

/-- What the port returned for the last event. -/
inductive Response where
  /-- No data: a write (R130: it returns nothing), a reset, or no event yet. -/
  | nothing
  /-- RDATA of a completed read (R130, R200). -/
  | rdata (v : Word)
  /-- A transaction cut short by reset, not completed (R701); for a read, `v` holds its undefined data (U3). -/
  | cutShort (v : Option Word)
deriving DecidableEq, Repr

/-- The machine. -/
structure State where
  /-- PHASE (R55). -/
  phase : Phase
  /-- ERR (R56). -/
  err : Err
  /-- ALG (R57); while IDLE it reads 0 and names no computation. -/
  alg : Alg
  /-- DLEN, the number of valid bytes in DIGEST (R63). -/
  dlen : BitVec 7
  /-- KEYOVF (R61). -/
  keyovf : Bool
  /-- KEYLEN, 0 to 128 (R61). -/
  keylen : BitVec 8
  /-- KEY (R61). -/
  key : Vector Byte 128
  /-- MLEN, the count of message bytes absorbed since the last successful INIT (R59). -/
  mlen : BitVec 64
  /-- SEED (R60). -/
  seed : DWord
  /-- OUTLEN, the digest length of the computation (R62). -/
  outlen : BitVec 7
  /-- CSEED, the copy of SEED taken at INIT (R62). -/
  cseed : DWord
  /-- CKEY, the copy of the key taken at INIT for BLAKE2b (R62). -/
  ckey : List Byte
  /-- MSG, every byte absorbed since INIT, in absorb order (R62; ghost state). -/
  msg : List Byte
  /-- DIGEST (R63). -/
  digest : Vector Byte 64
  /-- The engines' datapath registers (R64). -/
  dp : Datapath
  /-- The model's own: the host events not yet performed, the next one first (R50, R109; log entry 1). -/
  pending : List HostEvent
  /-- The model's own: what the port returned for the last event (log entry 3). -/
  response : Response
  /-- The model's own: how many free values have been drawn (log entry 4). -/
  freeCount : Nat
deriving DecidableEq, Repr

/-- Why a step can stop the machine. -/
inductive Fault where
  /-- Raised by `step` in a state that violates an invariant of R67 or shows a STATUS value that never occurs (R54, U2,
  U4): the spec says to treat it as a fault. Safe: no transaction reaches such a state, so nothing is lost. -/
  | invariantViolated
deriving DecidableEq, Repr

/-- Why a step can be refused. -/
inductive Refusal where
  /-- Raised by an arm of `exec` for an instruction without a meaning. Safe. No arm of this model uses it. -/
  | notModelled (mnemonic : String)
deriving DecidableEq, Repr

/-- Datapath registers of an eager engine with a zero buffer. -/
def EagerRegs.zeroed {σ : Type} (cap : Nat) (chain : σ) : EagerRegs σ cap :=
  { chain := chain, buf := Vector.replicate cap 0#8, fill := 0 }

/-- The engines' datapath registers right after reset. The spec leaves them unspecified (R700, U1); the model names zero
for each. DESIGN CHOICE, unsafe: log entry 6. No statement rests on it. -/
def Datapath.afterReset : Datapath where
  md5 := .zeroed 64 (Vector.replicate 4 0)
  sha512 := .zeroed 128 (Vector.replicate 8 0)
  sha3 := .zeroed 136 (Vector.replicate 25 0)
  blake2b := { h := Vector.replicate 8 0, t := 0, buf := Vector.replicate 128 0, fill := 0 }
  ripemd160 := .zeroed 64 (Vector.replicate 5 0)
  tiger := .zeroed 64 { a := 0, b := 0, c := 0 }
  crc16 := 0
  crc32 := 0
  crc64 := 0
  murmur3 := .zeroed 4 0
  xxh64 := .zeroed 32 (Vector.replicate 4 0)

/-- The machine right after reset (R700): every value as its table states, the datapath as log entry 6 names it, no host
event pending and nothing returned yet (log entries 1, 3, 4). -/
def State.reset : State where
  phase := .idle
  err := .none
  alg := .md5
  dlen := 0
  keyovf := false
  keylen := 0
  key := Vector.replicate 128 0
  mlen := 0
  seed := 0
  outlen := 0
  cseed := 0
  ckey := []
  msg := []
  digest := Vector.replicate 64 0
  dp := Datapath.afterReset
  pending := []
  response := .nothing
  freeCount := 0

end Sys2Proof.Machine
end

