-- ==== Sys2Proof/Machine/Stream.lean ====
section
/-! DEFINITION. The streaming discipline shared by the block engines (spec/41_digest_and_stream.md, sections 2 and 3): the
eager buffer rule (R265), the padding primitive (R267, R336) and the whole-message fold over blocks. -/

namespace Sys2Proof.Machine

/-- BUF[0..FILL). -/
def EagerRegs.partialBlock {σ : Type} {cap : Nat} (r : EagerRegs σ cap) : List Byte := r.buf.toList.take r.fill

/-- EngineInit of an eager engine: the chaining state is set and FILL <- 0. BUF is don't-care (R309) and kept (log
entry 10). -/
def eagerInit {σ : Type} {cap : Nat} (chain : σ) (r : EagerRegs σ cap) : EagerRegs σ cap :=
  { r with chain := chain, fill := 0 }

/-- EngineAbsorb of an eager engine (R265): BUF[FILL] <- b; FILL <- FILL + 1; a full buffer is compressed at once. -/
def eagerAbsorb {σ : Type} {cap : Nat} (compress : σ → List Byte → σ) (r : EagerRegs σ cap) (b : Byte) :
    EagerRegs σ cap :=
  if r.fill + 1 = cap then
    { chain := compress r.chain (r.buf.setIfInBounds r.fill b).toList, buf := r.buf.setIfInBounds r.fill b, fill := 0 }
  else
    { r with buf := r.buf.setIfInBounds r.fill b, fill := r.fill + 1 }

/-- for j in 0..len(P)/C : h <- compress(h, P[Cj .. Cj+C)). -/
def foldBlocks {σ : Type} (C : Nat) (compress : σ → List Byte → σ) (h : σ) (P : List Byte) : σ :=
  (List.range (P.length / C)).foldl (fun h j => compress h (slice P (C * j) (C * j + C))) h

/-- The least k with (len + 1 + k) mod C = target (R267: C = 64, target = 56; R336: C = 128, target = 112). -/
def padZeros (C target len : Nat) : Nat := (target + C - (len + 1) % C) % C

/-- B ‖ [m] ‖ zeros(k) ‖ lengthField, with k as R267 and R336 choose it from len(B). -/
def padBlock (C target : Nat) (m : Byte) (lengthField B : List Byte) : List Byte :=
  B ++ [m] ++ zeros (padZeros C target B.length) ++ lengthField

/-- leb_64((8 · n) mod 2^64) (R267). -/
def bitLength64 (n : Nat) : List Byte := leBytes (BitVec.ofNat 64 (8 * n))

/-- beb_128(8 · n) (R336). -/
def bitLength128 (n : Nat) : List Byte := beBytes (BitVec.ofNat 128 (8 * n))

/-- pad64(M, m) (R267). -/
def pad64 (m : Byte) (M : List Byte) : List Byte := padBlock 64 56 m (bitLength64 M.length) M

end Sys2Proof.Machine
end

