-- ==== Sys2Proof/Machine/Blake2b.lean ====
section
/-! DEFINITION. The BLAKE2b engine (spec/45_blake2b.md), keyed, with a configurable output length. -/

namespace Sys2Proof.Machine

/-- The IV, equal to SHA-512's initial state (R390). -/
def blake2bIV : Vector DWord 8 := sha512IV

/-- The chaining state of the parameter block with digest length nn and key length kk (R391). -/
def blake2bParam (nn kk : Nat) : Vector DWord 8 :=
  blake2bIV.set 0 (blake2bIV[0] ^^^ 0x01010000 ^^^ (BitVec.ofNat 64 kk <<< 8) ^^^ BitVec.ofNat 64 nn)

/-- The message schedule σ, one row per round (R392). -/
def blake2bSigma : List (List Nat) :=
  [[0, 1, 2, 3, 4, 5, 6, 7, 8, 9, 10, 11, 12, 13, 14, 15],
   [14, 10, 4, 8, 9, 15, 13, 6, 1, 12, 0, 2, 11, 7, 5, 3],
   [11, 8, 12, 0, 5, 2, 15, 13, 10, 14, 3, 6, 7, 1, 9, 4],
   [7, 9, 3, 1, 13, 12, 11, 14, 2, 6, 5, 10, 4, 0, 15, 8],
   [9, 0, 5, 7, 2, 4, 10, 15, 14, 1, 11, 12, 6, 8, 3, 13],
   [2, 12, 6, 10, 0, 11, 8, 3, 4, 13, 7, 5, 15, 14, 1, 9],
   [12, 5, 1, 15, 14, 13, 4, 10, 0, 7, 6, 3, 9, 2, 8, 11],
   [13, 11, 7, 14, 12, 1, 3, 9, 5, 0, 15, 4, 8, 6, 2, 10],
   [6, 15, 14, 9, 11, 3, 0, 8, 12, 2, 13, 7, 1, 4, 10, 5],
   [10, 2, 8, 4, 7, 6, 1, 5, 15, 11, 9, 14, 3, 12, 13, 0],
   [0, 1, 2, 3, 4, 5, 6, 7, 8, 9, 10, 11, 12, 13, 14, 15],
   [14, 10, 4, 8, 9, 15, 13, 6, 1, 12, 0, 2, 11, 7, 5, 3]]

/-- G(a, b, c, d, x, y) on the local vector (R393). -/
def blake2bG (v : Vector DWord 16) (a b c d : Fin 16) (x y : DWord) : Vector DWord 16 :=
  let v := v.set a (v[a] + v[b] + x)
  let v := v.set d (rotr (v[d] ^^^ v[a]) 32)
  let v := v.set c (v[c] + v[d])
  let v := v.set b (rotr (v[b] ^^^ v[c]) 24)
  let v := v.set a (v[a] + v[b] + y)
  let v := v.set d (rotr (v[d] ^^^ v[a]) 16)
  let v := v.set c (v[c] + v[d])
  v.set b (rotr (v[b] ^^^ v[c]) 63)

/-- One round r of F: four column G's, then four diagonal G's (R394). -/
def blake2bRound (m : List DWord) (v : Vector DWord 16) (r : Nat) : Vector DWord 16 :=
  let w (k : Nat) : DWord := m.getD ((blake2bSigma.getD r []).getD k 0) 0
  let v := blake2bG v 0 4 8 12 (w 0) (w 1)
  let v := blake2bG v 1 5 9 13 (w 2) (w 3)
  let v := blake2bG v 2 6 10 14 (w 4) (w 5)
  let v := blake2bG v 3 7 11 15 (w 6) (w 7)
  let v := blake2bG v 0 5 10 15 (w 8) (w 9)
  let v := blake2bG v 1 6 11 12 (w 10) (w 11)
  let v := blake2bG v 2 7 8 13 (w 12) (w 13)
  blake2bG v 3 4 9 14 (w 14) (w 15)

/-- The local vector v[0..16) before the rounds (R394): the chaining state, the IV, the counter in v[12] and v[13], and
v[14] inverted for the last block. -/
def blake2bLocal (h : Vector DWord 8) (t : BitVec 128) (last : Bool) : Vector DWord 16 :=
  let v : Vector DWord 16 := h ++ blake2bIV
  let v := v.set 12 (v[12] ^^^ t.extractLsb' 0 64)
  let v := v.set 13 (v[13] ^^^ t.extractLsb' 64 64)
  if last then v.set 14 (v[14] ^^^ 0xFFFFFFFFFFFFFFFF) else v

/-- F(h, B, T, last) (R394). -/
def blake2bF (h : Vector DWord 8) (B : List Byte) (t : BitVec 128) (last : Bool) : Vector DWord 8 :=
  let v := (List.range 12).foldl (blake2bRound (leWords 64 16 B)) (blake2bLocal h t last)
  Vector.ofFn fun (i : Fin 8) => h[i] ^^^ v.getD i.val 0 ^^^ v.getD (i.val + 8) 0

/-- KB: the key zero-padded to one block, nothing for an empty key (R395). -/
def blake2bKeyBlock (K : List Byte) : List Byte := if K.length > 0 then K ++ zeros (128 - K.length) else []

/-- The chaining state and the counter T as compression goes on. -/
structure Blake2bChain where
  h : Vector DWord 8
  t : BitVec 128
deriving DecidableEq, Repr

/-- T <- T + len(B); h <- F(h, B zero-padded to 128, T, last) (R395, R396). -/
def blake2bCompress (last : Bool) (c : Blake2bChain) (B : List Byte) : Blake2bChain :=
  let t := c.t + BitVec.ofNat 128 B.length
  { h := blake2bF c.h (B ++ zeros (128 - B.length)) t last, t := t }

/-- The number of blocks of a compression input of N bytes: max(1, ceil(N / 128)) (R396). -/
def blake2bBlocks (N : Nat) : Nat := max 1 ((N + 127) / 128)

/-- H_B2B(M, K, nn) (R397). -/
def blake2bDigest (M K : List Byte) (nn : Nat) : List Byte :=
  let D := blake2bKeyBlock K ++ M
  let n := blake2bBlocks D.length
  let c := foldBlocks 128 (blake2bCompress false) { h := blake2bParam nn K.length, t := 0 } (D.take (128 * (n - 1)))
  (leSerialize (blake2bCompress true c (D.drop (128 * (n - 1)))).h).take nn

/-- EngineInit (R399): for a key, BUF holds the key block and is full. -/
def blake2bInit (outlen : Nat) (ckey : List Byte) (r : Blake2bRegs) : Blake2bRegs :=
  if ckey.length > 0 then
    { h := blake2bParam outlen ckey.length, t := 0, buf := toBuffer 128 (blake2bKeyBlock ckey), fill := 128 }
  else
    { r with h := blake2bParam outlen ckey.length, t := 0, fill := 0 }

/-- The held-back full buffer is compressed when a further byte arrives (R399). -/
def blake2bFlush (r : Blake2bRegs) : Blake2bRegs :=
  if r.fill = 128 then
    let t := r.t + 128
    { r with t := t, h := blake2bF r.h r.buf.toList t false, fill := 0 }
  else r

/-- EngineAbsorb (R399). -/
def blake2bAbsorb (r : Blake2bRegs) (b : Byte) : Blake2bRegs :=
  let r := blake2bFlush r
  { r with buf := r.buf.setIfInBounds r.fill b, fill := r.fill + 1 }

/-- EngineFinal (R399). -/
def blake2bFinal (outlen : Nat) (r : Blake2bRegs) : List Byte :=
  let t := r.t + BitVec.ofNat 128 r.fill
  (leSerialize (blake2bF r.h (r.buf.toList.take r.fill ++ zeros (128 - r.fill)) t true)).take outlen

end Sys2Proof.Machine
end

