-- ==== Sys2Proof/Machine/Crc.lean ====
section
/-! DEFINITION. The CRC-16, CRC-32 and CRC-64 generators (spec/48_crc.md). -/

namespace Sys2Proof.Machine

/-- Apply f n times. -/
def iter {α : Type} (f : α → α) : Nat → α → α
  | 0, x => x
  | n + 1, x => iter f n (f x)

/-- One bit of the CRC-16 update, MSB first with polynomial 0x1021 (R501). -/
def crc16Bit (r : BitVec 16) : BitVec 16 := if r.getLsbD 15 then (r <<< 1) ^^^ 0x1021 else r <<< 1

/-- CRC16Byte(R, b) (R501). -/
def crc16Byte (r : BitVec 16) (b : Byte) : BitVec 16 := iter crc16Bit 8 (r ^^^ (b.setWidth 16 <<< 8))

/-- The initial CRC-16 register (R500). -/
def crc16Init : BitVec 16 := 0xFFFF

/-- The CRC-16 output, no final XOR (R502). -/
def crc16Out (r : BitVec 16) : List Byte := beBytes r

/-- H_CRC16(M) (R502). -/
def crc16Digest (M : List Byte) : List Byte := crc16Out (M.foldl crc16Byte crc16Init)

/-- One turn of the loop that generates T32 (R504), with the reflected polynomial of R503. -/
def crc32Bit (c : Word) : Word := if c.getLsbD 0 then (c >>> 1) ^^^ 0xEDB88320 else c >>> 1

/-- T32[n] by its generating loop (R504). -/
def crc32Entry (n : Nat) : Word := iter crc32Bit 8 (BitVec.ofNat 32 n)

/-- CRC32Byte(R, b) (R505), with the ROM. -/
def crc32Byte (r : Word) (b : Byte) : Word :=
  crcT32.getD ((r ^^^ b.setWidth 32) &&& 0xFF).toNat 0 ^^^ (r >>> 8)

/-- The initial CRC-32 register (R505). -/
def crc32Init : Word := 0xFFFFFFFF

/-- The CRC-32 output (R506). -/
def crc32Out (r : Word) : List Byte := beBytes (r ^^^ 0xFFFFFFFF)

/-- H_CRC32(M) (R507). -/
def crc32Digest (M : List Byte) : List Byte := crc32Out (M.foldl crc32Byte crc32Init)

/-- One turn of the loop that generates T64 (R509), with the polynomial of R508. -/
def crc64Bit (c : DWord) : DWord := if c.getLsbD 63 then (c <<< 1) ^^^ 0x42F0E1EBA9EA3693 else c <<< 1

/-- T64[n] by its generating loop (R509). -/
def crc64Entry (n : Nat) : DWord := iter crc64Bit 8 (BitVec.ofNat 64 n <<< 56)

/-- CRC64Byte(R, b) (R510), with the ROM. -/
def crc64Byte (r : DWord) (b : Byte) : DWord :=
  crcT64.getD (((r >>> 56) ^^^ b.setWidth 64) &&& 0xFF).toNat 0 ^^^ (r <<< 8)

/-- The initial CRC-64 register (R510). -/
def crc64Init : DWord := 0

/-- The CRC-64 output, no final XOR (R511). -/
def crc64Out (r : DWord) : List Byte := beBytes r

/-- H_CRC64(M) (R512). -/
def crc64Digest (M : List Byte) : List Byte := crc64Out (M.foldl crc64Byte crc64Init)

end Sys2Proof.Machine
end

