-- ==== Sys2Proof/Machine/Md5.lean ====
section
/-! DEFINITION. The MD5 core (spec/42_md5.md). -/

namespace Sys2Proof.Machine

/-- The initial state (R300). -/
def md5IV : Vector Word 4 := #v[0x67452301, 0xEFCDAB89, 0x98BADCFE, 0x10325476]

/-- The round constants T[0..64) (R301). -/
def md5T : List Word :=
  [0xD76AA478, 0xE8C7B756, 0x242070DB, 0xC1BDCEEE, 0xF57C0FAF, 0x4787C62A, 0xA8304613, 0xFD469501,
   0x698098D8, 0x8B44F7AF, 0xFFFF5BB1, 0x895CD7BE, 0x6B901122, 0xFD987193, 0xA679438E, 0x49B40821,
   0xF61E2562, 0xC040B340, 0x265E5A51, 0xE9B6C7AA, 0xD62F105D, 0x02441453, 0xD8A1E681, 0xE7D3FBC8,
   0x21E1CDE6, 0xC33707D6, 0xF4D50D87, 0x455A14ED, 0xA9E3E905, 0xFCEFA3F8, 0x676F02D9, 0x8D2A4C8A] ++
  [0xFFFA3942, 0x8771F681, 0x6D9D6122, 0xFDE5380C, 0xA4BEEA44, 0x4BDECFA9, 0xF6BB4B60, 0xBEBFBC70,
   0x289B7EC6, 0xEAA127FA, 0xD4EF3085, 0x04881D05, 0xD9D4D039, 0xE6DB99E5, 0x1FA27CF8, 0xC4AC5665,
   0xF4292244, 0x432AFF97, 0xAB9423A7, 0xFC93A039, 0x655B59C3, 0x8F0CCC92, 0xFFEFF47D, 0x85845DD1,
   0x6FA87E4F, 0xFE2CE6E0, 0xA3014314, 0x4E0811A1, 0xF7537E82, 0xBD3AF235, 0x2AD7D2BB, 0xEB86D391]

/-- The left-rotation amounts s[0..64) (R302). -/
def md5S : List Nat :=
  [7, 12, 17, 22, 7, 12, 17, 22, 7, 12, 17, 22, 7, 12, 17, 22,
   5, 9, 14, 20, 5, 9, 14, 20, 5, 9, 14, 20, 5, 9, 14, 20,
   4, 11, 16, 23, 4, 11, 16, 23, 4, 11, 16, 23, 4, 11, 16, 23,
   6, 10, 15, 21, 6, 10, 15, 21, 6, 10, 15, 21, 6, 10, 15, 21]

/-- F (R303). -/
def md5F (x y z : Word) : Word := (x &&& y) ||| (~~~x &&& z)

/-- G (R303). -/
def md5G (x y z : Word) : Word := (x &&& z) ||| (y &&& ~~~z)

/-- H (R303). -/
def md5H (x y z : Word) : Word := x ^^^ y ^^^ z

/-- I (R303). -/
def md5I (x y z : Word) : Word := y ^^^ (x ||| ~~~z)

/-- fn(i), the round function of step i (R303). -/
def md5Fn (i : Nat) : Word → Word → Word → Word :=
  match i / 16 with
  | 0 => md5F
  | 1 => md5G
  | 2 => md5H
  | _ => md5I

/-- g(i), the message-word index of step i (R304). -/
def md5Index (i : Nat) : Nat :=
  match i / 16 with
  | 0 => i
  | 1 => (5 * i + 1) % 16
  | 2 => (3 * i + 5) % 16
  | _ => (7 * i) % 16

/-- One step on the working words (a, b, c, d) (R305). -/
def md5Step (X : List Word) (v : Vector Word 4) (i : Nat) : Vector Word 4 :=
  let t := v[0] + md5Fn i v[1] v[2] v[3] + md5T.getD i 0 + X.getD (md5Index i) 0
  #v[v[3], v[1] + rotl t (md5S.getD i 0), v[1], v[2]]

/-- MD5Compress(H, B) (R306). -/
def md5Compress (H : Vector Word 4) (B : List Byte) : Vector Word 4 :=
  Vector.zipWith (· + ·) H ((List.range 64).foldl (md5Step (leWords 32 16 B)) H)

/-- MD5Pad(M) (R307). -/
def md5Pad (M : List Byte) : List Byte := pad64 0x80 M

/-- H_MD5(M) (R308). -/
def md5Digest (M : List Byte) : List Byte := leSerialize (foldBlocks 64 md5Compress md5IV (md5Pad M))

/-- EngineInit (R309). -/
def md5Init (r : EagerRegs (Vector Word 4) 64) : EagerRegs (Vector Word 4) 64 := eagerInit md5IV r

/-- EngineAbsorb (R310). -/
def md5Absorb (r : EagerRegs (Vector Word 4) 64) (b : Byte) : EagerRegs (Vector Word 4) 64 :=
  eagerAbsorb md5Compress r b

/-- EngineFinal (R311): it reads FILL, BUF[0..FILL) and MLEN. -/
def md5Final (mlen : Nat) (r : EagerRegs (Vector Word 4) 64) : List Byte :=
  leSerialize (foldBlocks 64 md5Compress r.chain (padBlock 64 56 0x80 (bitLength64 mlen) r.partialBlock))

end Sys2Proof.Machine
end

