-- ==== Sys2Proof/Machine/Murmur3.lean ====
section
/-! DEFINITION. The MurmurHash3 x86-32 mixer (spec/49_murmur_xxhash.md, section 1). -/

namespace Sys2Proof.Machine

/-- mixk(k) (R540, R541). -/
def mm3MixK (k : Word) : Word := rotl (k * 0xCC9E2D51) 15 * 0x1B873593

/-- mixh(h, k) (R540, R541). -/
def mm3MixH (h k : Word) : Word := rotl (h ^^^ mm3MixK k) 13 * 5 + 0xE6546B64

/-- One block of the body: mixh(h, LE_32(B, 0)) (R542). -/
def mm3Block (h : Word) (B : List Byte) : Word := mm3MixH h (leRead 32 B 0)

/-- The tail on the q = 0..3 remaining bytes (R543). -/
def mm3Tail (h : Word) (t : List Byte) : Word :=
  if t.length ≥ 1 then
    let k : Word := (byteAt t 0).setWidth 32 |||
      (if t.length ≥ 2 then (byteAt t 1).setWidth 32 <<< 8 else 0) |||
      (if t.length = 3 then (byteAt t 2).setWidth 32 <<< 16 else 0)
    h ^^^ mm3MixK k
  else h

/-- fmix32(h) (R544). -/
def mm3Fmix (h : Word) : Word :=
  let h := h ^^^ (h >>> 16)
  let h := h * 0x85EBCA6B
  let h := h ^^^ (h >>> 13)
  let h := h * 0xC2B2AE35
  h ^^^ (h >>> 16)

/-- The length fold, modulo 2^32, and the avalanche (R544). -/
def mm3Finish (h : Word) (n : Nat) : List Byte := beBytes (mm3Fmix (h ^^^ BitVec.ofNat 32 n))

/-- H_MM3(M, s) (R545). -/
def mm3Digest (M : List Byte) (s : Word) : List Byte :=
  mm3Finish (mm3Tail (foldBlocks 4 mm3Block s M) (M.drop (4 * (M.length / 4)))) M.length

/-- EngineInit (R546). -/
def mm3Init (cseed : DWord) (r : EagerRegs Word 4) : EagerRegs Word 4 := eagerInit (cseed.extractLsb' 0 32) r

/-- EngineAbsorb (R546). -/
def mm3Absorb (r : EagerRegs Word 4) (b : Byte) : EagerRegs Word 4 := eagerAbsorb mm3Block r b

/-- EngineFinal (R546). -/
def mm3Final (mlen : Nat) (r : EagerRegs Word 4) : List Byte := mm3Finish (mm3Tail r.chain r.partialBlock) mlen

end Sys2Proof.Machine
end

