-- ==== Sys2Proof/Machine/Ripemd160.lean ====
section
/-! DEFINITION. The RIPEMD-160 dual-pipeline core (spec/46_ripemd160.md). -/

namespace Sys2Proof.Machine

/-- The initial state (R430). -/
def rmdIV : Vector Word 5 := #v[0x67452301, 0xEFCDAB89, 0x98BADCFE, 0x10325476, 0xC3D2E1F0]

/-- f1 to f5, numbered 1 to 5 (R431). -/
def rmdF (n : Nat) (x y z : Word) : Word :=
  match n with
  | 1 => x ^^^ y ^^^ z
  | 2 => (x &&& y) ||| (~~~x &&& z)
  | 3 => (x ||| ~~~y) ^^^ z
  | 4 => (x &&& z) ||| (y &&& ~~~z)
  | _ => x ^^^ (y ||| ~~~z)

/-- r[0..80), the left pipeline's message-word indices (R432). -/
def rmdRLeft : List Nat :=
  [0, 1, 2, 3, 4, 5, 6, 7, 8, 9, 10, 11, 12, 13, 14, 15,
   7, 4, 13, 1, 10, 6, 15, 3, 12, 0, 9, 5, 2, 14, 11, 8,
   3, 10, 14, 4, 9, 15, 8, 1, 2, 7, 0, 6, 13, 11, 5, 12,
   1, 9, 11, 10, 0, 8, 12, 4, 13, 3, 7, 15, 14, 5, 6, 2,
   4, 0, 5, 9, 7, 12, 2, 10, 14, 1, 3, 8, 11, 6, 15, 13]

/-- r'[0..80), the right pipeline's message-word indices (R432). -/
def rmdRRight : List Nat :=
  [5, 14, 7, 0, 9, 2, 11, 4, 13, 6, 15, 8, 1, 10, 3, 12,
   6, 11, 3, 7, 0, 13, 5, 10, 14, 15, 8, 12, 4, 9, 1, 2,
   15, 5, 1, 3, 7, 14, 6, 9, 11, 8, 12, 2, 10, 0, 4, 13,
   8, 6, 4, 1, 3, 11, 15, 0, 5, 12, 2, 13, 9, 7, 10, 14,
   12, 15, 10, 4, 1, 5, 8, 7, 6, 2, 13, 14, 0, 3, 9, 11]

/-- s[0..80), the left pipeline's rotation amounts (R433). -/
def rmdSLeft : List Nat :=
  [11, 14, 15, 12, 5, 8, 7, 9, 11, 13, 14, 15, 6, 7, 9, 8,
   7, 6, 8, 13, 11, 9, 7, 15, 7, 12, 15, 9, 11, 7, 13, 12,
   11, 13, 6, 7, 14, 9, 13, 15, 14, 8, 13, 6, 5, 12, 7, 5,
   11, 12, 14, 15, 14, 15, 9, 8, 9, 14, 5, 6, 8, 6, 5, 12,
   9, 15, 5, 11, 6, 8, 13, 12, 5, 12, 13, 14, 11, 8, 5, 6]

/-- s'[0..80), the right pipeline's rotation amounts (R433). -/
def rmdSRight : List Nat :=
  [8, 9, 9, 11, 13, 15, 15, 5, 7, 7, 8, 11, 14, 14, 12, 6,
   9, 13, 15, 7, 12, 8, 9, 11, 7, 7, 12, 7, 6, 15, 13, 11,
   9, 7, 15, 11, 8, 6, 6, 14, 12, 13, 5, 14, 13, 13, 7, 5,
   15, 5, 8, 11, 14, 14, 6, 14, 6, 9, 12, 9, 12, 5, 15, 8,
   8, 5, 12, 9, 12, 5, 14, 6, 8, 13, 6, 5, 15, 13, 11, 11]

/-- K[0..5), the left pipeline's constants by group (R434). -/
def rmdKLeft : List Word := [0x00000000, 0x5A827999, 0x6ED9EBA1, 0x8F1BBCDC, 0xA953FD4E]

/-- K'[0..5), the right pipeline's constants by group (R434). -/
def rmdKRight : List Word := [0x50A28BE6, 0x5C4DD124, 0x6D703EF3, 0x7A6D76E9, 0x00000000]

/-- One step of one pipeline on its working words (A, B, C, D, E), given its function number, message word, constant
and rotation (R435). -/
def rmdStep (f : Nat) (x k : Word) (s : Nat) (v : Vector Word 5) : Vector Word 5 :=
  let t := rotl (v[0] + rmdF f v[1] v[2] v[3] + x + k) s + v[4]
  #v[v[4], t, v[1], rotl v[2] 10, v[3]]

/-- Left step j: function f_(g+1) of group g = j / 16 (R431, R435). -/
def rmdLeft (X : List Word) (v : Vector Word 5) (j : Nat) : Vector Word 5 :=
  rmdStep (j / 16 + 1) (X.getD (rmdRLeft.getD j 0) 0) (rmdKLeft.getD (j / 16) 0) (rmdSLeft.getD j 0) v

/-- Right step j: function f_(5-g) of group g = j / 16 (R431, R435). -/
def rmdRight (X : List Word) (v : Vector Word 5) (j : Nat) : Vector Word 5 :=
  rmdStep (5 - j / 16) (X.getD (rmdRRight.getD j 0) 0) (rmdKRight.getD (j / 16) 0) (rmdSRight.getD j 0) v

/-- RMDCompress(H, B) (R436): 80 steps of each pipeline, then the rotated cross-combination. -/
def rmdCompress (H : Vector Word 5) (B : List Byte) : Vector Word 5 :=
  let X := leWords 32 16 B
  let l := (List.range 80).foldl (rmdLeft X) H
  let r := (List.range 80).foldl (rmdRight X) H
  #v[H[1] + l[2] + r[3], H[2] + l[3] + r[4], H[3] + l[4] + r[0], H[4] + l[0] + r[1], H[0] + l[1] + r[2]]

/-- RMDPad(M) (R437). -/
def rmdPad (M : List Byte) : List Byte := pad64 0x80 M

/-- H_RMD(M) (R438). -/
def rmdDigest (M : List Byte) : List Byte := leSerialize (foldBlocks 64 rmdCompress rmdIV (rmdPad M))

/-- EngineInit (R439). -/
def rmdInit (r : EagerRegs (Vector Word 5) 64) : EagerRegs (Vector Word 5) 64 := eagerInit rmdIV r

/-- EngineAbsorb (R439). -/
def rmdAbsorb (r : EagerRegs (Vector Word 5) 64) (b : Byte) : EagerRegs (Vector Word 5) 64 :=
  eagerAbsorb rmdCompress r b

/-- EngineFinal (R439). -/
def rmdFinal (mlen : Nat) (r : EagerRegs (Vector Word 5) 64) : List Byte :=
  leSerialize (foldBlocks 64 rmdCompress r.chain (padBlock 64 56 0x80 (bitLength64 mlen) r.partialBlock))

end Sys2Proof.Machine
end

