-- ==== Sys2Proof/Machine/Sha3.lean ====
section
/-! DEFINITION. The SHA3-256 engine (spec/44_sha3.md): the Keccak-f[1600] permutation and the sponge of rate 136. -/

namespace Sys2Proof.Machine

/-- The 25 lanes. Lane A[x, y] is stored at index x + 5y, x and y mod 5 (R360). -/
abbrev Lanes := Vector DWord 25

/-- The index of lane (x, y) (R360). -/
def laneIndex (x y : Nat) : Nat := x % 5 + 5 * (y % 5)

/-- A[x, y] (R360). -/
def lane (A : Lanes) (x y : Nat) : DWord := A.getD (laneIndex x y) 0

/-- A fresh array with A[x, y] = f x y. -/
def lanesOf (f : Nat → Nat → DWord) : Lanes := Vector.ofFn fun i => f (i.val % 5) (i.val / 5)

/-- The rotation offsets, row x and column y (R361). -/
def keccakOffsets : List (List Nat) :=
  [[0, 36, 3, 41, 18],
   [1, 44, 10, 45, 2],
   [62, 6, 43, 15, 61],
   [28, 55, 25, 21, 56],
   [27, 20, 39, 8, 14]]

/-- r[x, y] (R361). -/
def keccakOffset (x y : Nat) : Nat := (keccakOffsets.getD x []).getD y 0

/-- The rows of R362's table: row k holds the constants of rounds 4k to 4k + 3. -/
def keccakRCRows : List (List DWord) :=
  [[0x0000000000000001, 0x0000000000008082, 0x800000000000808A, 0x8000000080008000],
   [0x000000000000808B, 0x0000000080000001, 0x8000000080008081, 0x8000000000008009],
   [0x000000000000008A, 0x0000000000000088, 0x0000000080008009, 0x000000008000000A],
   [0x000000008000808B, 0x800000000000008B, 0x8000000000008089, 0x8000000000008003],
   [0x8000000000008002, 0x8000000000000080, 0x000000000000800A, 0x800000008000000A],
   [0x8000000080008081, 0x8000000000008080, 0x0000000080000001, 0x8000000080008008]]

/-- RC[n] (R362): row n div 4, column n mod 4. -/
def keccakRC (n : Nat) : DWord := (keccakRCRows.getD (n / 4) []).getD (n % 4) 0

/-- C[x] of θ (R363). -/
def keccakC (A : Lanes) (x : Nat) : DWord := lane A x 0 ^^^ lane A x 1 ^^^ lane A x 2 ^^^ lane A x 3 ^^^ lane A x 4

/-- D[x] of θ (R363): C[x-1] ^ rotl_64(C[x+1], 1), indices mod 5. -/
def keccakD (A : Lanes) (x : Nat) : DWord := keccakC A ((x + 4) % 5) ^^^ rotl (keccakC A ((x + 1) % 5)) 1

/-- θ (R363). -/
def keccakTheta (A : Lanes) : Lanes :=
  let D : Vector DWord 5 := Vector.ofFn fun x => keccakD A x.val
  lanesOf fun x y => lane A x y ^^^ D.getD x 0

/-- ρ and π (R364): a fresh array B with B[y, 2x + 3y] <- rotl_64(A[x, y], r[x, y]) for all x, y. -/
def keccakRhoPi (A : Lanes) : Lanes :=
  (List.range 25).foldl
    (fun B i => B.setIfInBounds (laneIndex (i / 5) (2 * (i % 5) + 3 * (i / 5)))
      (rotl (lane A (i % 5) (i / 5)) (keccakOffset (i % 5) (i / 5))))
    (Vector.replicate 25 0)

/-- χ (R365). -/
def keccakChi (B : Lanes) : Lanes := lanesOf fun x y => lane B x y ^^^ (~~~(lane B (x + 1) y) &&& lane B (x + 2) y)

/-- ι in round n (R366). -/
def keccakIota (n : Nat) (A : Lanes) : Lanes := A.setIfInBounds 0 (lane A 0 0 ^^^ keccakRC n)

/-- Round n: θ, ρ+π, χ, then ι (R367). -/
def keccakRound (A : Lanes) (n : Nat) : Lanes := keccakIota n (keccakChi (keccakRhoPi (keccakTheta A)))

/-- Keccak-f[1600], 24 rounds (R367). -/
def keccakF (A : Lanes) : Lanes := (List.range 24).foldl keccakRound A

/-- Lanes 0 to 16 XORed with the block's words, the capacity lanes as they are (R368). -/
def sha3Xor (A : Lanes) (B : List Byte) : Lanes :=
  Vector.ofFn fun i => if i.val < 17 then A[i] ^^^ leRead 64 B (8 * i.val) else A[i]

/-- SHA3Absorb(A, B) (R368). -/
def sha3Absorb (A : Lanes) (B : List Byte) : Lanes := keccakF (sha3Xor A B)

/-- The final block for the last partial block L0 = BUF[0..q) (R369): zero-filled to 136 bytes, byte q ORed with 0x06,
then byte 135 ORed with 0x80. -/
def sha3FinalBlock (L0 : List Byte) : List Byte :=
  let L := L0 ++ zeros (136 - L0.length)
  let L := L.set L0.length (byteAt L L0.length ||| 0x06)
  L.set 135 (byteAt L 135 ||| 0x80)

/-- The squeeze: lanes 0 to 3, little-endian (R370, R371). -/
def sha3Squeeze (A : Lanes) : List Byte := leBytes A[0] ++ leBytes A[1] ++ leBytes A[2] ++ leBytes A[3]

/-- The zero state a sponge starts from (R372, R373). -/
def sha3IV : Lanes := Vector.replicate 25 0

/-- H_SHA3(M) (R372). -/
def sha3Digest (M : List Byte) : List Byte :=
  sha3Squeeze (sha3Absorb (foldBlocks 136 sha3Absorb sha3IV M) (sha3FinalBlock (M.drop (136 * (M.length / 136)))))

/-- EngineInit (R373). -/
def sha3Init (r : EagerRegs Lanes 136) : EagerRegs Lanes 136 := eagerInit sha3IV r

/-- EngineAbsorb (R374). -/
def sha3AbsorbByte (r : EagerRegs Lanes 136) (b : Byte) : EagerRegs Lanes 136 := eagerAbsorb sha3Absorb r b

/-- EngineFinal (R375). -/
def sha3Final (r : EagerRegs Lanes 136) : List Byte := sha3Squeeze (sha3Absorb r.chain (sha3FinalBlock r.partialBlock))

end Sys2Proof.Machine
end

