-- ==== Sys2Proof/Machine/Tiger.lean ====
section
/-! DEFINITION. The Tiger/192 core (spec/47_tiger.md). The compression takes the S-boxes as an argument, since R461 runs it
on the tables as they stand while it generates them; the core itself uses the ROM of R469. -/

namespace Sys2Proof.Machine

/-- The initial state (R460). -/
def tigerIV : TigerRegs := { a := 0x0123456789ABCDEF, b := 0xFEDCBA9876543210, c := 0xF096A5B4C3B2E187 }

/-- t_k[n], for k in 1..4. -/
abbrev TigerTables := Nat → Nat → DWord

/-- The S-box ROM (R469). -/
def tigerRom : TigerTables := fun k n =>
  match k with
  | 1 => tigerT1.getD n 0
  | 2 => tigerT2.getD n 0
  | 3 => tigerT3.getD n 0
  | _ => tigerT4.getD n 0

/-- c_k, byte k of c (R462). -/
def tigerByte (c : DWord) (k : Nat) : Nat := (c.extractLsb' (8 * k) 8).toNat

/-- round(a, b, c, x, mul) on the three registers, in that order (R462). -/
def tigerRound (T : TigerTables) (mul x : DWord) (r : DWord × DWord × DWord) : DWord × DWord × DWord :=
  let c := r.2.2 ^^^ x
  let a := r.1 - (T 1 (tigerByte c 0) ^^^ T 2 (tigerByte c 2) ^^^ T 3 (tigerByte c 4) ^^^ T 4 (tigerByte c 6))
  let b := r.2.1 + (T 4 (tigerByte c 1) ^^^ T 3 (tigerByte c 3) ^^^ T 2 (tigerByte c 5) ^^^ T 1 (tigerByte c 7))
  (a, b * mul, c)

/-- The next round's roles: (a, b, c) is followed by (b, c, a) (R463). -/
def tigerRotate (r : DWord × DWord × DWord) : DWord × DWord × DWord := (r.2.1, r.2.2, r.1)

/-- pass(a, b, c, mul) (R463): eight rounds over x[0..8), the roles rotating after each. After eight rotations the roles
stand at (c, a, b); one more brings them back to (a, b, c). -/
def tigerPass (T : TigerTables) (mul : DWord) (x : Vector DWord 8) (r : DWord × DWord × DWord) :
    DWord × DWord × DWord :=
  tigerRotate (x.toList.foldl (fun r xi => tigerRotate (tigerRound T mul xi r)) r)

/-- The key schedule (R464). -/
def tigerKeySchedule (x : Vector DWord 8) : Vector DWord 8 :=
  let x := x.set 0 (x[0] - (x[7] ^^^ 0xA5A5A5A5A5A5A5A5))
  let x := x.set 1 (x[1] ^^^ x[0])
  let x := x.set 2 (x[2] + x[1])
  let x := x.set 3 (x[3] - (x[2] ^^^ (~~~x[1] <<< 19)))
  let x := x.set 4 (x[4] ^^^ x[3])
  let x := x.set 5 (x[5] + x[4])
  let x := x.set 6 (x[6] - (x[5] ^^^ (~~~x[4] >>> 23)))
  let x := x.set 7 (x[7] ^^^ x[6])
  let x := x.set 0 (x[0] + x[7])
  let x := x.set 1 (x[1] - (x[0] ^^^ (~~~x[7] <<< 19)))
  let x := x.set 2 (x[2] ^^^ x[1])
  let x := x.set 3 (x[3] + x[2])
  let x := x.set 4 (x[4] - (x[3] ^^^ (~~~x[2] >>> 23)))
  let x := x.set 5 (x[5] ^^^ x[4])
  let x := x.set 6 (x[6] + x[5])
  x.set 7 (x[7] - (x[6] ^^^ 0x0123456789ABCDEF))

/-- The message words x[k] <- LE_64(Blk, 8k) (R465). -/
def tigerWords (B : List Byte) : Vector DWord 8 := Vector.ofFn fun i => leRead 64 B (8 * i.val)

/-- TigerCompress((A, B, C), Blk) with the given tables (R465): pass(A, B, C, 5), pass(C, A, B, 7), pass(B, C, A, 9),
the key schedule between them, then the feed-forward. -/
def tigerCompressWith (T : TigerTables) (s : TigerRegs) (B : List Byte) : TigerRegs :=
  let x1 := tigerWords B
  let x2 := tigerKeySchedule x1
  let x3 := tigerKeySchedule x2
  let p := tigerPass T 5 x1 (s.a, s.b, s.c)
  let q := tigerPass T 7 x2 (p.2.2, p.1, p.2.1)
  let r := tigerPass T 9 x3 (q.2.2, q.1, q.2.1)
  { a := r.2.2 ^^^ s.a, b := r.1 - s.b, c := r.2.1 + s.c }

/-- TigerCompress with the ROM (R465, R469). -/
def tigerCompress (s : TigerRegs) (B : List Byte) : TigerRegs := tigerCompressWith tigerRom s B

/-- TigerPad(M) (R466): the marker byte is 0x01. -/
def tigerPad (M : List Byte) : List Byte := pad64 0x01 M

/-- leb_64(A) ‖ leb_64(B) ‖ leb_64(C) (R467). -/
def tigerSerialize (s : TigerRegs) : List Byte := leBytes s.a ++ leBytes s.b ++ leBytes s.c

/-- H_TIGER(M) (R467). -/
def tigerDigest (M : List Byte) : List Byte := tigerSerialize (foldBlocks 64 tigerCompress tigerIV (tigerPad M))

/-- EngineInit (R468). -/
def tigerInit (r : EagerRegs TigerRegs 64) : EagerRegs TigerRegs 64 := eagerInit tigerIV r

/-- EngineAbsorb (R468). -/
def tigerAbsorb (r : EagerRegs TigerRegs 64) (b : Byte) : EagerRegs TigerRegs 64 := eagerAbsorb tigerCompress r b

/-- EngineFinal (R468). -/
def tigerFinal (mlen : Nat) (r : EagerRegs TigerRegs 64) : List Byte :=
  tigerSerialize (foldBlocks 64 tigerCompress r.chain (padBlock 64 56 0x01 (bitLength64 mlen) r.partialBlock))

/-! ### The generation of the S-boxes (R461) -/

/-- S, the 64 ASCII bytes of the generation procedure (R461). -/
def tigerSeedText : List Byte :=
  "Tiger - A Fast New Hash Function, by Ross Anderson and Eli Biham".toList.map fun ch => BitVec.ofNat 8 ch.toNat

/-- What the generation procedure carries: tb as 1024 rows of 8 bytes laid end to end, the state st and the index abc. -/
structure TigerGen where
  tb : Array Byte
  st : TigerRegs
  abc : Nat

/-- t_k[n] = LE_64(tb[256(k-1) + n]) on the table as it stands (R461). -/
def tigerGenTables (tb : Array Byte) : TigerTables := fun k n =>
  leRead 64 ((List.range 8).map fun col => tb.getD (8 * (256 * (k - 1) + n) + col) 0) 0

/-- st[abc] (R461). -/
def tigerGenPick (g : TigerGen) : DWord :=
  match g.abc with
  | 0 => g.st.a
  | 1 => g.st.b
  | _ => g.st.c

/-- The body of the procedure for one (i, sb): abc moves on, the state is compressed anew when abc wraps, and the eight
byte columns are swapped (R461). -/
def tigerGenStep (i : Nat) (g : TigerGen) (sb : Nat) : TigerGen :=
  let g :=
    if g.abc + 1 = 3 then
      { g with abc := 0, st := tigerCompressWith (tigerGenTables g.tb) g.st tigerSeedText }
    else { g with abc := g.abc + 1 }
  let w := tigerGenPick g
  let tb := (List.range 8).foldl
    (fun tb col => tb.swapIfInBounds (8 * (sb + i) + col) (8 * (sb + tigerByte w col) + col)) g.tb
  { g with tb := tb }

/-- The whole procedure: 5 rounds over the 256 rows of the four tables (R461). -/
def tigerGenerate : TigerTables :=
  let init : TigerGen :=
    { tb := ((List.range 1024).flatMap fun i => List.replicate 8 (BitVec.ofNat 8 (i % 256))).toArray
      st := tigerIV
      abc := 2 }
  let g := (List.range (5 * 256)).foldl (fun g n => [0, 256, 512, 768].foldl (tigerGenStep (n % 256)) g) init
  tigerGenTables g.tb

end Sys2Proof.Machine
end

