-- ==== Sys2Proof/Machine/Xxh64.lean ====
section
/-! DEFINITION. The xxHash64 core (spec/49_murmur_xxhash.md, section 2). -/

namespace Sys2Proof.Machine

/-- P1 (R550). -/
def xxhP1 : DWord := 0x9E3779B185EBCA87

/-- P2 (R550). -/
def xxhP2 : DWord := 0xC2B2AE3D27D4EB4F

/-- P3 (R550). -/
def xxhP3 : DWord := 0x165667B19E3779F9

/-- P4 (R550). -/
def xxhP4 : DWord := 0x85EBCA77C2B2AE63

/-- P5 (R550). -/
def xxhP5 : DWord := 0x27D4EB2F165667C5

/-- round(acc, x) (R551). -/
def xxhRound (acc x : DWord) : DWord := rotl (acc + x * xxhP2) 31 * xxhP1

/-- merge(h, v) (R552). -/
def xxhMerge (h v : DWord) : DWord := (h ^^^ xxhRound 0 v) * xxhP1 + xxhP4

/-- The accumulators of seed s (R553). -/
def xxhIV (s : DWord) : Vector DWord 4 := #v[s + xxhP1 + xxhP2, s + xxhP2, s, s - xxhP1]

/-- One 32-byte stripe (R553). -/
def xxhStripe (V : Vector DWord 4) (B : List Byte) : Vector DWord 4 :=
  Vector.ofFn fun (k : Fin 4) => xxhRound V[k] (leRead 64 B (8 * k.val))

/-- Convergence (R554). -/
def xxhConverge (V : Vector DWord 4) : DWord :=
  let h := rotl V[0] 1 + rotl V[1] 7 + rotl V[2] 12 + rotl V[3] 18
  xxhMerge (xxhMerge (xxhMerge (xxhMerge h V[0]) V[1]) V[2]) V[3]

/-- An 8-byte word of the tail (R556). -/
def xxhTail8 (h x : DWord) : DWord := rotl (h ^^^ xxhRound 0 x) 27 * xxhP1 + xxhP4

/-- A 4-byte word of the tail, zero-extended (R556). -/
def xxhTail4 (h : DWord) (x : Word) : DWord := rotl (h ^^^ (x.setWidth 64 * xxhP1)) 23 * xxhP2 + xxhP3

/-- A single byte of the tail (R556). -/
def xxhTail1 (h : DWord) (b : Byte) : DWord := rotl (h ^^^ (b.setWidth 64 * xxhP5)) 11 * xxhP1

/-- The tail t of r = n mod 32 bytes (R556): while r >= 8 an 8-byte word, then if r >= 4 a 4-byte word, then single
bytes. -/
def xxhTail (h : DWord) (t : List Byte) : DWord :=
  let h := (List.range (t.length / 8)).foldl (fun h i => xxhTail8 h (leRead 64 t (8 * i))) h
  let t := t.drop (8 * (t.length / 8))
  if t.length ≥ 4 then (t.drop 4).foldl xxhTail1 (xxhTail4 h (leRead 32 t 0))
  else t.foldl xxhTail1 h

/-- The avalanche (R557). -/
def xxhAvalanche (h : DWord) : DWord :=
  let h := h ^^^ (h >>> 33)
  let h := h * xxhP2
  let h := h ^^^ (h >>> 29)
  let h := h * xxhP3
  h ^^^ (h >>> 32)

/-- The length and the tail, the avalanche and the output (R556-R558), from the accumulators, the seed, the length and
the tail. The long path is taken for n >= 32 (R554), the short start otherwise (R555). -/
def xxhFinish (V : Vector DWord 4) (s : DWord) (n : Nat) (t : List Byte) : List Byte :=
  let h := if n ≥ 32 then xxhConverge V else s + xxhP5
  beBytes (xxhAvalanche (xxhTail (h + BitVec.ofNat 64 n) t))

/-- H_XXH64(M, s) (R559). -/
def xxhDigest (M : List Byte) (s : DWord) : List Byte :=
  xxhFinish (foldBlocks 32 xxhStripe (xxhIV s) M) s M.length (M.drop (32 * (M.length / 32)))

/-- EngineInit (R560). -/
def xxhInit (cseed : DWord) (r : EagerRegs (Vector DWord 4) 32) : EagerRegs (Vector DWord 4) 32 :=
  eagerInit (xxhIV cseed) r

/-- EngineAbsorb (R560). -/
def xxhAbsorb (r : EagerRegs (Vector DWord 4) 32) (b : Byte) : EagerRegs (Vector DWord 4) 32 :=
  eagerAbsorb xxhStripe r b

/-- EngineFinal (R560): the choice between the long and the short path is made from MLEN. -/
def xxhFinal (cseed : DWord) (mlen : Nat) (r : EagerRegs (Vector DWord 4) 32) : List Byte :=
  xxhFinish r.chain cseed mlen r.partialBlock

end Sys2Proof.Machine
end

