-- ==== Sys2Proof/Machine/Engines.lean ====
section
/-! DEFINITION. The digest function and the engine interface (spec/41_digest_and_stream.md, section 1). An operation on one
engine leaves the other engines' registers as they are (log entry 7). -/

namespace Sys2Proof.Machine

/-- Digest(ALG, OUTLEN, CSEED, CKEY, MSG), on the whole message (R260). -/
def digestOf (alg : Alg) (outlen : Nat) (cseed : DWord) (ckey msg : List Byte) : List Byte :=
  match alg with
  | .md5 => md5Digest msg
  | .sha512 => sha512Digest msg
  | .sha3_256 => sha3Digest msg
  | .blake2b => blake2bDigest msg ckey outlen
  | .ripemd160 => rmdDigest msg
  | .tiger192 => tigerDigest msg
  | .crc16 => crc16Digest msg
  | .crc32 => crc32Digest msg
  | .crc64 => crc64Digest msg
  | .murmur3_32 => mm3Digest msg (cseed.extractLsb' 0 32)
  | .xxh64 => xxhDigest msg cseed

/-- EngineInit(ALG, OUTLEN, CSEED, CKEY), run by INIT (R263). -/
def engineInit (alg : Alg) (outlen : Nat) (cseed : DWord) (ckey : List Byte) (dp : Datapath) : Datapath :=
  match alg with
  | .md5 => { dp with md5 := md5Init dp.md5 }
  | .sha512 => { dp with sha512 := sha512Init dp.sha512 }
  | .sha3_256 => { dp with sha3 := sha3Init dp.sha3 }
  | .blake2b => { dp with blake2b := blake2bInit outlen ckey dp.blake2b }
  | .ripemd160 => { dp with ripemd160 := rmdInit dp.ripemd160 }
  | .tiger192 => { dp with tiger := tigerInit dp.tiger }
  | .crc16 => { dp with crc16 := crc16Init }
  | .crc32 => { dp with crc32 := crc32Init }
  | .crc64 => { dp with crc64 := crc64Init }
  | .murmur3_32 => { dp with murmur3 := mm3Init cseed dp.murmur3 }
  | .xxh64 => { dp with xxh64 := xxhInit cseed dp.xxh64 }

/-- EngineAbsorb(ALG, b), run by AbsorbBytes for each byte (R263). -/
def engineAbsorb (alg : Alg) (dp : Datapath) (b : Byte) : Datapath :=
  match alg with
  | .md5 => { dp with md5 := md5Absorb dp.md5 b }
  | .sha512 => { dp with sha512 := sha512Absorb dp.sha512 b }
  | .sha3_256 => { dp with sha3 := sha3AbsorbByte dp.sha3 b }
  | .blake2b => { dp with blake2b := blake2bAbsorb dp.blake2b b }
  | .ripemd160 => { dp with ripemd160 := rmdAbsorb dp.ripemd160 b }
  | .tiger192 => { dp with tiger := tigerAbsorb dp.tiger b }
  | .crc16 => { dp with crc16 := crc16Byte dp.crc16 b }
  | .crc32 => { dp with crc32 := crc32Byte dp.crc32 b }
  | .crc64 => { dp with crc64 := crc64Byte dp.crc64 b }
  | .murmur3_32 => { dp with murmur3 := mm3Absorb dp.murmur3 b }
  | .xxh64 => { dp with xxh64 := xxhAbsorb dp.xxh64 b }

/-- EngineFinal(ALG), the digest read from the datapath registers (R263). FINAL is defined by `digestOf` (R212); R264
says the two agree. -/
def engineFinal (alg : Alg) (outlen : Nat) (cseed : DWord) (mlen : Nat) (dp : Datapath) : List Byte :=
  match alg with
  | .md5 => md5Final mlen dp.md5
  | .sha512 => sha512Final mlen dp.sha512
  | .sha3_256 => sha3Final dp.sha3
  | .blake2b => blake2bFinal outlen dp.blake2b
  | .ripemd160 => rmdFinal mlen dp.ripemd160
  | .tiger192 => tigerFinal mlen dp.tiger
  | .crc16 => crc16Out dp.crc16
  | .crc32 => crc32Out dp.crc32
  | .crc64 => crc64Out dp.crc64
  | .murmur3_32 => mm3Final mlen dp.murmur3
  | .xxh64 => xxhFinal cseed mlen dp.xxh64

end Sys2Proof.Machine
end

