-- ==== Sys2Proof/WellFormed.lean ====
section
/-! DEFINITION. Which instructions the encoding admits (R135 of spec/30_encoding.md). Only INIT has a check beyond the
widths of its fields: its digest-length field is at most 64, and is 0 unless the algorithm is BLAKE2b. -/

namespace Sys2Proof

/-- INIT's operand pair is legal (R133, R135). -/
def initLegal (alg : Alg) (ol : BitVec 7) : Bool :=
  decide (ol ≤ 64#7) && (decide (ol = 0#7) || decide (alg = .blake2b))

/-- The instruction is one the decoder can answer. -/
def Instr.wellFormed : Instr → Bool
  | .nop => true
  | .init alg ol => initLegal alg ol
  | .ldseed _ _ => true
  | .ldkey _ => true
  | .clrkey => true
  | .absorb1 _ => true
  | .absorb2 _ _ => true
  | .absorb3 _ _ _ => true
  | .final => true
  | .wrDin _ => true
  | .rdStatus => true
  | .rdMlen0 => true
  | .rdMlen1 => true
  | .rdSeed0 => true
  | .rdSeed1 => true
  | .rdDout _ => true

end Sys2Proof
end

