-- ==== Sys2Proof/Decode.lean ====
section
/-! DEFINITION. The decoder (R130-R136 of spec/30_encoding.md), total on all 38-bit records and rejecting by name, and
after it the encoder. Decoding is the same in every phase and error state (R137): it is a function of the record alone. -/

namespace Sys2Proof

/-- WE, bit 37 of the record (R130): true for a write. -/
def htWe (ht : HT) : Bool := ht.getLsbD 37

/-- WIDX, bits 36:32 (R130). -/
def htWidx (ht : HT) : BitVec 5 := ht.extractLsb' 32 5

/-- WDATA, bits 31:0 (R130). -/
def htWdata (ht : HT) : Word := ht.extractLsb' 0 32

/-- The algorithm an id names; ids 11-15 are reserved (R57). -/
def algOfId (a : BitVec 4) : Option Alg :=
  match a.toNat with
  | 0 => some .md5
  | 1 => some .sha512
  | 2 => some .sha3_256
  | 3 => some .blake2b
  | 4 => some .ripemd160
  | 5 => some .tiger192
  | 6 => some .crc16
  | 7 => some .crc32
  | 8 => some .crc64
  | 9 => some .murmur3_32
  | 10 => some .xxh64
  | _ => none

/-- The id of an algorithm (R57). -/
def algId : Alg → BitVec 4
  | .md5 => 0
  | .sha512 => 1
  | .sha3_256 => 2
  | .blake2b => 3
  | .ripemd160 => 4
  | .tiger192 => 5
  | .crc16 => 6
  | .crc32 => 7
  | .crc64 => 8
  | .murmur3_32 => 9
  | .xxh64 => 10

/-- Format I (R131): bits 23:15 and 7:4 are reserved, OL = w[14:8], ALGF = w[3:0]; R135 says which pairs are legal. -/
def decodeInit (w : Word) : Decoded :=
  if w.extractLsb' 15 9 ≠ 0#9 ∨ w.extractLsb' 4 4 ≠ 0#4 then .illegal
  else
    match algOfId (w.extractLsb' 0 4) with
    | none => .illegal
    | some alg => if initLegal alg (w.extractLsb' 8 7) then .instr (.init alg (w.extractLsb' 8 7)) else .illegal

/-- decode_cmd (R136): a word written to CMD. -/
def decodeCmd (w : Word) : Decoded :=
  match (w.extractLsb' 24 8).toNat with
  | 0x00 => if w.extractLsb' 0 24 = 0#24 then .instr .nop else .illegal
  | 0x01 => decodeInit w
  | 0x02 => if w.extractLsb' 18 6 = 0#6 then .instr (.ldseed (w.extractLsb' 16 2) (w.extractLsb' 0 16)) else .illegal
  | 0x03 => if w.extractLsb' 8 16 = 0#16 then .instr (.ldkey (w.extractLsb' 0 8)) else .illegal
  | 0x04 => if w.extractLsb' 0 24 = 0#24 then .instr .clrkey else .illegal
  | 0x05 => if w.extractLsb' 8 16 = 0#16 then .instr (.absorb1 (w.extractLsb' 0 8)) else .illegal
  | 0x06 => if w.extractLsb' 16 8 = 0#8 then .instr (.absorb2 (w.extractLsb' 0 8) (w.extractLsb' 8 8)) else .illegal
  | 0x07 => .instr (.absorb3 (w.extractLsb' 0 8) (w.extractLsb' 8 8) (w.extractLsb' 16 8))
  | 0x08 => if w.extractLsb' 0 24 = 0#24 then .instr .final else .illegal
  | _ => .illegal

/-- A read of slot `widx` (R134, R136): the mapped readable slots, and a bus error for the rest. -/
def decodeRead (widx : BitVec 5) : Decoded :=
  if 16#5 ≤ widx then .instr (.rdDout (widx.extractLsb' 0 4))
  else
    match widx.toNat with
    | 1 => .instr .rdStatus
    | 3 => .instr .rdMlen0
    | 4 => .instr .rdMlen1
    | 5 => .instr .rdSeed0
    | 6 => .instr .rdSeed1
    | _ => .busErr

/-- A write of `w` to slot `widx` (R134, R136): CMD, DIN, and a bus error for the rest. -/
def decodeWrite (widx : BitVec 5) (w : Word) : Decoded :=
  match widx.toNat with
  | 0 => decodeCmd w
  | 2 => .instr (.wrDin w)
  | _ => .busErr

/-- decode(HT) (R136). -/
def decode (ht : HT) : Decoded :=
  if htWe ht then decodeWrite (htWidx ht) (htWdata ht) else decodeRead (htWidx ht)

/-- The record with the given fields (R130). -/
def mkHT (we : Bool) (widx : BitVec 5) (wdata : Word) : HT :=
  BitVec.ofBool we ++ widx ++ wdata

/-- The record of a write of a command word to CMD. -/
def cmdHT (w : Word) : HT := mkHT true 0#5 w

/-- The record of a read of slot `widx`, WDATA 0 (the core ignores it, R130). -/
def readHT (widx : BitVec 5) : HT := mkHT false widx 0#32

/-- The record of a well-formed instruction, from the formats of R131 and the slots of R134. -/
def encode : Instr → HT
  | .nop => cmdHT (0x00#8 ++ 0#24)
  | .init alg ol => cmdHT (0x01#8 ++ 0#9 ++ ol ++ 0#4 ++ algId alg)
  | .ldseed k imm16 => cmdHT (0x02#8 ++ 0#6 ++ k ++ imm16)
  | .ldkey b0 => cmdHT (0x03#8 ++ 0#16 ++ b0)
  | .clrkey => cmdHT (0x04#8 ++ 0#24)
  | .absorb1 b0 => cmdHT (0x05#8 ++ 0#16 ++ b0)
  | .absorb2 b0 b1 => cmdHT (0x06#8 ++ 0#8 ++ b1 ++ b0)
  | .absorb3 b0 b1 b2 => cmdHT (0x07#8 ++ b2 ++ b1 ++ b0)
  | .final => cmdHT (0x08#8 ++ 0#24)
  | .wrDin w => mkHT true 2#5 w
  | .rdStatus => readHT 1#5
  | .rdMlen0 => readHT 3#5
  | .rdMlen1 => readHT 4#5
  | .rdSeed0 => readHT 5#5
  | .rdSeed1 => readHT 6#5
  | .rdDout i => readHT (1#1 ++ i)

/-- The instruction the decoder reads from the record numbered `w` as spec/opcode_table.json numbers its bits: the
record has 38 bits, so a number of 2^38 or more is no record and is refused (log entry 13). -/
def decodeTableWord (_nbits w : Nat) : Option Instr :=
  if w < 2 ^ 38 then
    match decode (BitVec.ofNat 38 w) with
    | .instr i => some i
    | .illegal => none
    | .busErr => none
  else none

end Sys2Proof
end

