-- ==== Sys2Proof/Machine/Flags.lean ====
section
/-! DEFINITION. STATUS, the only status the host sees (R54, R65): the codes of its fields and its word. -/

namespace Sys2Proof.Machine

/-- The value of PHASE (R55). -/
def phaseCode : Phase → BitVec 2
  | .idle => 0
  | .active => 1
  | .done => 2

/-- The error codes (R601). -/
def errCode : Err → BitVec 4
  | .none => 0
  | .bus => 1
  | .illegal => 2
  | .seq => 3
  | .key => 4
  | .len => 5

/-- The STATUS word: KEYLEN << 20 | KEYOVF << 19 | DLEN << 12 | ALG << 8 | ERR << 4 | PHASE (R213, R54). -/
def statusWord (s : State) : Word :=
  (s.keylen.setWidth 32 <<< 20) ||| ((BitVec.ofBool s.keyovf).setWidth 32 <<< 19) |||
    (s.dlen.setWidth 32 <<< 12) ||| ((algId s.alg).setWidth 32 <<< 8) |||
    ((errCode s.err).setWidth 32 <<< 4) ||| (phaseCode s.phase).setWidth 32

end Sys2Proof.Machine
end

