-- ==== Sys2Proof/Machine/Operands.lean ====
section
/-! DEFINITION. The operand forms of the transactions: the bytes of a DIN word (R58, R102), the digest length INIT chooses
(R57, R133), LDSEED's chunk (R103, R204), and the words reads return (R104, R105). -/

namespace Sys2Proof.Machine

/-- The four bytes of a DIN word in absorb order: w[7:0], w[15:8], w[23:16], w[31:24] (R58, R102). -/
def dinBytes (w : Word) : List Byte :=
  [w.extractLsb' 0 8, w.extractLsb' 8 8, w.extractLsb' 16 8, w.extractLsb' 24 8]

/-- The digest length of each algorithm (R57); BLAKE2b's is its default, 64 (R133). -/
def fixedLen : Alg → BitVec 7
  | .md5 => 16
  | .sha512 => 64
  | .sha3_256 => 32
  | .blake2b => 64
  | .ripemd160 => 20
  | .tiger192 => 24
  | .crc16 => 2
  | .crc32 => 4
  | .crc64 => 8
  | .murmur3_32 => 4
  | .xxh64 => 8

/-- OUTLEN as INIT sets it (R133, R203). -/
def initOutlen (alg : Alg) (ol : BitVec 7) : BitVec 7 := if ol ≠ 0 then ol else fixedLen alg

/-- SEED[16K+15:16K] <- IMM16, the other 48 bits unchanged (R204). -/
def setSeedChunk (seed : DWord) (k : BitVec 2) (imm16 : BitVec 16) : DWord :=
  (seed &&& ~~~(0xFFFF#64 <<< (16 * k.toNat))) ||| (imm16.setWidth 64 <<< (16 * k.toNat))

/-- Bits 31:0 of a 64-bit register, read as its word 0 (R105). -/
def lowWord (v : DWord) : Word := v.extractLsb' 0 32

/-- Bits 63:32 of a 64-bit register, read as its word 1 (R105). -/
def highWord (v : DWord) : Word := v.extractLsb' 32 32

/-- DOUTi: DIGEST[4i] in bits 31:24 down to DIGEST[4i+3] in bits 7:0 (R104, R216). -/
def doutWord (digest : Vector Byte 64) (i : BitVec 4) : Word :=
  let d (k : Nat) : Word := (digest.getD (4 * i.toNat + k) 0).setWidth 32
  (d 0 <<< 24) ||| (d 1 <<< 16) ||| (d 2 <<< 8) ||| d 3

/-- KEY[0..KEYLEN). -/
def keyBytes (s : State) : List Byte := s.key.toList.take s.keylen.toNat

end Sys2Proof.Machine
end

