-- ==== Sys2Proof/Machine/Ops.lean ====
section
/-! DEFINITION. The shared operations over the state: raising an error, which is this core's whole exception mechanism
(R600, R601), and its return (R610); a bus error (R217); the key store (R61); starting, feeding and finishing a computation
(R203, R207, R212); and the port's side (R50, R200, R700, R701). -/

namespace Sys2Proof.Machine

/-- raise E_X (R601): ERR takes the code if it was 0; nothing else changes. There is no trap entry, no saved pc and no
mode change (R600). -/
def raise (e : Err) (s : State) : State := if s.err = .none then { s with err := e } else s

/-- The return from an error: a successful INIT sets ERR <- 0 (R610). -/
def clearErr (s : State) : State := { s with err := .none }

/-- A completed read returns `v` (R200). -/
def respond (v : Word) (s : State) : State := { s with response := .rdata v }

/-- bus_error(HT) (R217, R602): a read returns 0, and E_BUS is raised. -/
def busError (ht : HT) (s : State) : State := raise .bus (if htWe ht then s else respond 0 s)

/-- LDKEY's effect on the key store (R205). -/
def appendKey (b : Byte) (s : State) : State :=
  if s.keylen.toNat < 128 then
    { s with key := s.key.setIfInBounds s.keylen.toNat b, keylen := s.keylen + 1 }
  else { s with keyovf := true }

/-- CLRKEY's effect on the key store (R206). -/
def clearKey (s : State) : State := { s with key := Vector.replicate 128 0, keylen := 0, keyovf := false }

/-- The key INIT copies: KEY[0..KEYLEN) for BLAKE2b, empty otherwise (R62, R203). -/
def initKey (alg : Alg) (s : State) : List Byte := if alg = .blake2b then keyBytes s else []

/-- A successful INIT (R203): every assignment of its pseudocode. -/
def startComputation (alg : Alg) (ol : BitVec 7) (s : State) : State :=
  { clearErr s with
    alg := alg
    outlen := initOutlen alg ol
    cseed := s.seed
    ckey := initKey alg s
    msg := []
    mlen := 0
    digest := Vector.replicate 64 0
    dlen := 0
    dp := engineInit alg (initOutlen alg ol).toNat s.seed (initKey alg s) s.dp
    phase := .active }

/-- The bytes S enter the running computation (R207): each goes through EngineAbsorb in order, MSG and MLEN grow. -/
def feed (S : List Byte) (s : State) : State :=
  { s with
    dp := S.foldl (engineAbsorb s.alg) s.dp
    msg := s.msg ++ S
    mlen := s.mlen + BitVec.ofNat 64 S.length }

/-- AbsorbBytes(S) (R207): discarded while ERR is not 0 (R609), E_SEQ outside ACTIVE (R604), E_LEN past 2^64 - 1 (R606). -/
def absorbBytes (S : List Byte) (s : State) : State :=
  if s.err ≠ .none then s
  else if s.phase ≠ .active then raise .seq s
  else if s.mlen.toNat + S.length > 2 ^ 64 - 1 then raise .len s
  else feed S s

/-- The output mux (R262): DIGEST <- D ‖ zeros, DLEN <- OUTLEN, PHASE <- DONE (R212). -/
def loadDigest (D : List Byte) (s : State) : State :=
  { s with digest := toBuffer 64 D, dlen := s.outlen, phase := .done }

/-- FINAL (R212): discarded while ERR is not 0 (R609), E_SEQ outside ACTIVE (R604), else the digest of MSG is loaded. The
datapath registers, meaningless from here on, are left as they are (log entry 8). -/
def finalise (s : State) : State :=
  if s.err ≠ .none then s
  else if s.phase ≠ .active then raise .seq s
  else loadDigest (digestOf s.alg s.outlen.toNat s.cseed s.ckey s.msg) s

/-- The port takes the next event off the host's stream; nothing has been returned for it yet. -/
def takeEvent (rest : List HostEvent) (s : State) : State := { s with pending := rest, response := .nothing }

/-- Reset between two transactions (R700): every register of the core takes its reset value. The host's remaining events
and the free-value counter are not the core's (log entry 2). -/
def resetEvent (rest : List HostEvent) (s : State) : State :=
  { State.reset with pending := rest, freeCount := s.freeCount }

/-- Reset while the port is stalled on `ht` (R701): the transaction is abandoned, none of its effects survive, and the
core is in the reset state. A read's data is undefined (U3): a free value (log entry 4). -/
def abandonEvent (ht : HT) (rest : List HostEvent) (s : State) : State :=
  { resetEvent rest s with
    response := .cutShort (if htWe ht then none else some (Config.freeWord s.freeCount))
    freeCount := s.freeCount + 1 }

/-- The byte offset of a slot from CORE_BASE (R52, R100). -/
def slotOffset (widx : BitVec 5) : Nat := 4 * widx.toNat

/-- The platform address of a slot (R7, R100). -/
def slotAddress (widx : BitVec 5) : Nat := Config.coreBase + slotOffset widx

/-- The cycles the port stalls on `ht` in `s` (R7, R706); nothing in the model depends on it. -/
def stallCycles (ht : HT) (s : State) : Nat := Config.lat ht s

end Sys2Proof.Machine
end

