-- ==== Sys2Proof/Machine/Control.lean ====
section
/-! DEFINITION. The configuration and control commands (spec/40_host_commands.md, section 2). Their E_ILLEGAL cases are the
decoder's (R135, R603). None of them is discarded while ERR is not 0 (R609). -/

namespace Sys2Proof.Machine

/-- NOP (R202): nothing. -/
def execNop (s : State) : Host.Outcome State Fault Refusal := .next s

/-- INIT (R203): E_KEY for BLAKE2b with an over-long key (R605), else a new computation starts. -/
def execInit (alg : Alg) (ol : BitVec 7) (s : State) : Host.Outcome State Fault Refusal :=
  .next (if alg = .blake2b ∧ s.keyovf = true then raise .key s else startComputation alg ol s)

/-- LDSEED (R204). -/
def execLdseed (k : BitVec 2) (imm16 : BitVec 16) (s : State) : Host.Outcome State Fault Refusal :=
  .next { s with seed := setSeedChunk s.seed k imm16 }

/-- LDKEY (R205). -/
def execLdkey (b0 : Byte) (s : State) : Host.Outcome State Fault Refusal := .next (appendKey b0 s)

/-- CLRKEY (R206). -/
def execClrkey (s : State) : Host.Outcome State Fault Refusal := .next (clearKey s)

end Sys2Proof.Machine
end

