-- ==== Sys2Proof/Machine/Data.lean ====
section
/-! DEFINITION. The data commands and FINAL (spec/40_host_commands.md, section 3). -/

namespace Sys2Proof.Machine

/-- ABSORB1 (R208). -/
def execAbsorb1 (b0 : Byte) (s : State) : Host.Outcome State Fault Refusal := .next (absorbBytes [b0] s)

/-- ABSORB2 (R209): B0 first. -/
def execAbsorb2 (b0 b1 : Byte) (s : State) : Host.Outcome State Fault Refusal := .next (absorbBytes [b0, b1] s)

/-- ABSORB3 (R210): B0, B1, B2. -/
def execAbsorb3 (b0 b1 b2 : Byte) (s : State) : Host.Outcome State Fault Refusal := .next (absorbBytes [b0, b1, b2] s)

/-- WR DIN (R211): the word's four bytes, lowest first. -/
def execWrDin (w : Word) (s : State) : Host.Outcome State Fault Refusal := .next (absorbBytes (dinBytes w) s)

/-- FINAL (R212). -/
def execFinal (s : State) : Host.Outcome State Fault Refusal := .next (finalise s)

end Sys2Proof.Machine
end

