-- ==== Sys2Proof/Machine/Read.lean ====
section
/-! DEFINITION. The read transactions (spec/40_host_commands.md, section 4). They change no register of the core (R108);
`response` carries the word the port returns. -/

namespace Sys2Proof.Machine

/-- RD STATUS (R213). -/
def execRdStatus (s : State) : Host.Outcome State Fault Refusal := .next (respond (statusWord s) s)

/-- RD MLEN0 (R214). -/
def execRdMlen0 (s : State) : Host.Outcome State Fault Refusal := .next (respond (lowWord s.mlen) s)

/-- RD MLEN1 (R214). -/
def execRdMlen1 (s : State) : Host.Outcome State Fault Refusal := .next (respond (highWord s.mlen) s)

/-- RD SEED0 (R215): SEED, not CSEED. -/
def execRdSeed0 (s : State) : Host.Outcome State Fault Refusal := .next (respond (lowWord s.seed) s)

/-- RD SEED1 (R215): SEED, not CSEED. -/
def execRdSeed1 (s : State) : Host.Outcome State Fault Refusal := .next (respond (highWord s.seed) s)

/-- RD DOUTi (R216). -/
def execRdDout (i : BitVec 4) (s : State) : Host.Outcome State Fault Refusal := .next (respond (doutWord s.digest i) s)

end Sys2Proof.Machine
end

