-- ==== Sys2Proof/Machine/Dispatch.lean ====
section
/-! DEFINITION. One arm per instruction, each one direct call of its meaning (R200). -/

namespace Sys2Proof.Machine

def exec (i : Instr) (s : State) : Host.Outcome State Fault Refusal :=
  match i with
  | .nop => Sys2Proof.Machine.execNop s
  | .init alg ol => Sys2Proof.Machine.execInit alg ol s
  | .ldseed k imm16 => Sys2Proof.Machine.execLdseed k imm16 s
  | .ldkey b0 => Sys2Proof.Machine.execLdkey b0 s
  | .clrkey => Sys2Proof.Machine.execClrkey s
  | .absorb1 b0 => Sys2Proof.Machine.execAbsorb1 b0 s
  | .absorb2 b0 b1 => Sys2Proof.Machine.execAbsorb2 b0 b1 s
  | .absorb3 b0 b1 b2 => Sys2Proof.Machine.execAbsorb3 b0 b1 b2 s
  | .final => Sys2Proof.Machine.execFinal s
  | .wrDin w => Sys2Proof.Machine.execWrDin w s
  | .rdStatus => Sys2Proof.Machine.execRdStatus s
  | .rdMlen0 => Sys2Proof.Machine.execRdMlen0 s
  | .rdMlen1 => Sys2Proof.Machine.execRdMlen1 s
  | .rdSeed0 => Sys2Proof.Machine.execRdSeed0 s
  | .rdSeed1 => Sys2Proof.Machine.execRdSeed1 s
  | .rdDout k => Sys2Proof.Machine.execRdDout k s

end Sys2Proof.Machine
end

