-- ==== Sys2Proof/Machine/Invariants.lean ====
section
/-! DEFINITION. The invariants of R67 (spec/10_state.md, section 7) as a check. The spec says to treat a state that violates
one as a fault (R67, U2, U4), so `step` makes this check first (log entry 9). Item 5, ERR in 0..5, and the legal values of
PHASE and ALG hold by the types. -/

namespace Sys2Proof.Machine

/-- The number of bytes of BLAKE2b's compression input D = KB ‖ MSG (R395, R399). -/
def blake2bInputLen (ckeyLen msgLen : Nat) : Nat := (if ckeyLen > 0 then 128 else 0) + msgLen

/-- The fill count BLAKE2b holds after N input bytes (R399). -/
def blake2bFill (N : Nat) : Nat := if N = 0 then 0 else (N - 1) % 128 + 1

/-- R67 item 2: the selected engine's fill count, while ACTIVE. -/
def fillOk (s : State) : Bool :=
  match s.alg with
  | .md5 => s.dp.md5.fill == s.msg.length % 64
  | .sha512 => s.dp.sha512.fill == s.msg.length % 128
  | .sha3_256 => s.dp.sha3.fill == s.msg.length % 136
  | .blake2b =>
    let N := blake2bInputLen s.ckey.length s.msg.length
    s.dp.blake2b.fill == blake2bFill N && s.dp.blake2b.t.toNat == N - blake2bFill N
  | .ripemd160 => s.dp.ripemd160.fill == s.msg.length % 64
  | .tiger192 => s.dp.tiger.fill == s.msg.length % 64
  | .crc16 => true
  | .crc32 => true
  | .crc64 => true
  | .murmur3_32 => s.dp.murmur3.fill == s.msg.length % 4
  | .xxh64 => s.dp.xxh64.fill == s.msg.length % 32

/-- R67 items 1 to 4, and the range of DLEN (R54, U4). -/
def holdsR67 (s : State) : Bool :=
  s.mlen.toNat == s.msg.length &&
  (s.phase != .active || fillOk s) &&
  (s.dlen != 0) == (s.phase == .done) &&
  (s.phase != .done || s.dlen == s.outlen) &&
  decide (s.keylen.toNat ≤ 128) &&
  (!s.keyovf || s.keylen.toNat == 128) &&
  decide (s.dlen.toNat ≤ 64)

end Sys2Proof.Machine
end

