-- ==== Sys2Proof/Machine/Step.lean ====
section
/-! DEFINITION. One step of the machine: the core performs the next host event, completely (R50, R107, R109, R200). -/

namespace Sys2Proof.Machine

/-- step(HT) (R200): decode, then the bus error (R217), the illegal command (R603) or the instruction's meaning. -/
def runTransaction (ht : HT) (s : State) : Host.Outcome State Fault Refusal :=
  match decode ht with
  | .busErr => .next (busError ht s)
  | .illegal => .next (raise .illegal s)
  | .instr i => exec i s

/-- One step. A state that violates R67 is a fault (log entry 9). With no event pending nothing happens (R50). -/
def step (s : State) : Host.Outcome State Fault Refusal :=
  if holdsR67 s then
    match s.pending with
    | [] => .next s
    | .transaction ht :: rest => runTransaction ht (takeEvent rest s)
    | .reset :: rest => .next (resetEvent rest s)
    | .resetDuring ht :: rest => .next (abandonEvent ht rest s)
  else .fault .invariantViolated

/-- `s` with the transaction record numbered `w` (38 bits, as spec/opcode_table.json numbers them) as the host's next
transaction, so that the very next step performs it. This stands for the host issuing it (log entry 1). -/
def State.withFetchWord (s : State) (_nbits w : Nat) : State :=
  { s with pending := .transaction (BitVec.ofNat 38 w) :: s.pending }

end Sys2Proof.Machine
end

