-- ==== Sys2Proof/Machine/Asm.lean ====
section
/-! DEFINITION. The pseudo-instructions (R139) as the instruction sequences they expand to, and the textual form of a
transaction (R138). Nothing in `step` depends on this file. -/

namespace Sys2Proof.Machine

/-- SETSEED v64 (R139). -/
def asmSetSeed (v : DWord) : List Instr :=
  [.ldseed 0 (v.extractLsb' 0 16), .ldseed 1 (v.extractLsb' 16 16), .ldseed 2 (v.extractLsb' 32 16),
   .ldseed 3 (v.extractLsb' 48 16)]

/-- SETKEY "bytes" (R139). -/
def asmSetKey (K : List Byte) : List Instr := .clrkey :: K.map .ldkey

/-- The command for the last n mod 4 bytes of an ABSORB (R139). -/
def asmAbsorbTail (S : List Byte) : List Instr :=
  let n := S.length
  match n % 4 with
  | 1 => [.absorb1 (byteAt S (n - 1))]
  | 2 => [.absorb2 (byteAt S (n - 2)) (byteAt S (n - 1))]
  | 3 => [.absorb3 (byteAt S (n - 3)) (byteAt S (n - 2)) (byteAt S (n - 1))]
  | _ => []

/-- ABSORB "bytes" (R139). -/
def asmAbsorb (S : List Byte) : List Instr :=
  (List.range (S.length / 4)).map (fun j => .wrDin (leRead 32 S (4 * j))) ++ asmAbsorbTail S

/-- HASH alg, n, "bytes" (R139); n = 0 stands for the form without a length. -/
def asmHash (alg : Alg) (n : BitVec 7) (S : List Byte) : List Instr := .init alg n :: asmAbsorb S ++ [.final]

/-- RDDIGEST d (R139): RD DOUT0 .. RD DOUT(ceil(d/4)-1). -/
def asmRdDigest (d : Nat) : List Instr := (List.range ((d + 3) / 4)).map fun i => .rdDout (BitVec.ofNat 4 i)

/-- The mnemonic of an algorithm (R57). -/
def algName : Alg → String
  | .md5 => "MD5"
  | .sha512 => "SHA512"
  | .sha3_256 => "SHA3_256"
  | .blake2b => "BLAKE2B"
  | .ripemd160 => "RIPEMD160"
  | .tiger192 => "TIGER192"
  | .crc16 => "CRC16"
  | .crc32 => "CRC32"
  | .crc64 => "CRC64"
  | .murmur3_32 => "MURMUR3_32"
  | .xxh64 => "XXH64"

/-- A number as 0x and its hexadecimal digits (R138). -/
def asmHex {N : Nat} (v : BitVec N) : String := "0x" ++ hex (beBytes v)

/-- The textual form of a transaction (R138), numbers in hexadecimal where they are bytes or words (log entry 19). -/
def asmText : Instr → String
  | .nop => "NOP"
  | .init alg ol => if ol = 0 then "INIT " ++ algName alg else "INIT " ++ algName alg ++ ", " ++ toString ol.toNat
  | .ldseed k imm16 => "LDSEED " ++ toString k.toNat ++ ", " ++ asmHex imm16
  | .ldkey b0 => "LDKEY " ++ asmHex b0
  | .clrkey => "CLRKEY"
  | .absorb1 b0 => "ABSORB1 " ++ asmHex b0
  | .absorb2 b0 b1 => "ABSORB2 " ++ asmHex b0 ++ ", " ++ asmHex b1
  | .absorb3 b0 b1 b2 => "ABSORB3 " ++ asmHex b0 ++ ", " ++ asmHex b1 ++ ", " ++ asmHex b2
  | .final => "FINAL"
  | .wrDin w => "WR DIN, " ++ asmHex w
  | .rdStatus => "RD STATUS"
  | .rdMlen0 => "RD MLEN0"
  | .rdMlen1 => "RD MLEN1"
  | .rdSeed0 => "RD SEED0"
  | .rdSeed1 => "RD SEED1"
  | .rdDout i => "RD DOUT" ++ toString i.toNat

end Sys2Proof.Machine
end

