-- ==== Sys2Proof/Safety.lean ====
section
/-! DEFINITION. The words claims use: the state R700 describes, the engine registers a computation starts from, the
invariant every step keeps, and a run of instructions issued by the host. -/

namespace Sys2Proof.Safety

open Sys2Proof Sys2Proof.Machine

/-- Every register has the value the table of R700 gives it; the datapath registers, which it leaves unspecified, may hold
anything. -/
def isResetState (s : State) : Prop :=
  s.phase = .idle ∧ s.err = .none ∧ algId s.alg = 0 ∧ s.dlen = 0 ∧ s.keyovf = false ∧ s.keylen = 0 ∧ s.mlen = 0 ∧
    s.seed = 0 ∧ (∀ i : Fin 128, s.key[i] = 0) ∧ s.outlen = 0 ∧ s.cseed = 0 ∧ s.ckey = [] ∧ s.msg = [] ∧
    (∀ i : Fin 64, s.digest[i] = 0)

/-- The registers of engine `alg` are the ones EngineInit sets (R309, R338, R373, R399, R439, R468, R513, R546, R560),
written out; BUF is don't-care but for a keyed BLAKE2b. -/
def engineAtStart (alg : Alg) (outlen : Nat) (cseed : DWord) (ckey : List Byte) (dp : Datapath) : Prop :=
  match alg with
  | .md5 => dp.md5.chain = #v[0x67452301, 0xEFCDAB89, 0x98BADCFE, 0x10325476] ∧ dp.md5.fill = 0
  | .sha512 =>
    dp.sha512.chain =
      #v[0x6A09E667F3BCC908, 0xBB67AE8584CAA73B, 0x3C6EF372FE94F82B, 0xA54FF53A5F1D36F1,
         0x510E527FADE682D1, 0x9B05688C2B3E6C1F, 0x1F83D9ABFB41BD6B, 0x5BE0CD19137E2179] ∧ dp.sha512.fill = 0
  | .sha3_256 => (∀ i : Fin 25, dp.sha3.chain[i] = 0) ∧ dp.sha3.fill = 0
  | .blake2b =>
    dp.blake2b.h =
      #v[0x6A09E667F3BCC908 ^^^ 0x01010000 ^^^ (BitVec.ofNat 64 ckey.length <<< 8) ^^^ BitVec.ofNat 64 outlen,
         0xBB67AE8584CAA73B, 0x3C6EF372FE94F82B, 0xA54FF53A5F1D36F1,
         0x510E527FADE682D1, 0x9B05688C2B3E6C1F, 0x1F83D9ABFB41BD6B, 0x5BE0CD19137E2179] ∧ dp.blake2b.t = 0 ∧
      (ckey = [] → dp.blake2b.fill = 0) ∧
      (ckey ≠ [] → dp.blake2b.fill = 128 ∧ dp.blake2b.buf.toList = ckey ++ zeros (128 - ckey.length))
  | .ripemd160 =>
    dp.ripemd160.chain = #v[0x67452301, 0xEFCDAB89, 0x98BADCFE, 0x10325476, 0xC3D2E1F0] ∧ dp.ripemd160.fill = 0
  | .tiger192 =>
    dp.tiger.chain = { a := 0x0123456789ABCDEF, b := 0xFEDCBA9876543210, c := 0xF096A5B4C3B2E187 } ∧ dp.tiger.fill = 0
  | .crc16 => dp.crc16 = 0xFFFF
  | .crc32 => dp.crc32 = 0xFFFFFFFF
  | .crc64 => dp.crc64 = 0
  | .murmur3_32 => dp.murmur3.chain = cseed.extractLsb' 0 32 ∧ dp.murmur3.fill = 0
  | .xxh64 =>
    dp.xxh64.chain =
      #v[cseed + 0x9E3779B185EBCA87 + 0xC2B2AE3D27D4EB4F, cseed + 0xC2B2AE3D27D4EB4F, cseed,
         cseed - 0x9E3779B185EBCA87] ∧ dp.xxh64.fill = 0

/-- OUTLEN is a legal digest length of the algorithm (R57, R133). -/
def outlenLegal (alg : Alg) (outlen : BitVec 7) : Prop :=
  if alg = .blake2b then 1 ≤ outlen.toNat ∧ outlen.toNat ≤ 64 else outlen = fixedLen alg

/-- The invariant of the machine: R67, and what ties its registers together. -/
structure StateInv (s : State) : Prop where
  /-- R67. -/
  r67 : holdsR67 s = true
  /-- While IDLE the computation context is as reset left it (R55, R57, R62). -/
  idle : s.phase = .idle → s.alg = .md5 ∧ s.outlen = 0 ∧ s.cseed = 0 ∧ s.ckey = [] ∧ s.msg = []
  /-- From INIT on OUTLEN is a legal digest length (R57, R62). -/
  outlen : s.phase ≠ .idle → outlenLegal s.alg s.outlen
  /-- CKEY has at most 128 bytes, and none for an algorithm other than BLAKE2b (R62). -/
  ckey : s.ckey.length ≤ 128 ∧ (s.alg ≠ .blake2b → s.ckey = [])
  /-- The KEY bytes from KEYLEN on are zero (R61). -/
  key : ∀ i, s.keylen.toNat ≤ i → i < 128 → s.key.getD i 0 = 0
  /-- DIGEST holds the digest of the finished computation, zero-filled, while DONE, and zeros otherwise (R63, R262). -/
  digest : s.digest.toList =
    if s.phase = .done then
      digestOf s.alg s.outlen.toNat s.cseed s.ckey s.msg ++ zeros (64 - s.outlen.toNat)
    else zeros 64
  /-- While ACTIVE the datapath is what EngineInit and one EngineAbsorb per byte of MSG make it (R64, R263). -/
  stream : s.phase = .active → ∃ dp0,
    s.dp = s.msg.foldl (engineAbsorb s.alg) (engineInit s.alg s.outlen.toNat s.cseed s.ckey dp0)

/-- The host's next events are exactly the given instructions, each issued as its record. -/
def issues (s : State) (is : List Instr) : State := { s with pending := is.map fun i => .transaction (encode i) }

/-- `n` steps, stopping at the first fault. -/
def steps : Nat → State → Host.Outcome State Fault Refusal
  | 0, s => .next s
  | n + 1, s =>
    match step s with
    | .next t => steps n t
    | .fault r => .fault r
    | .refused r => .refused r

/-- The run of `is` from `s` completes in `t`: one step for each instruction, no fault and no refusal. -/
def runsTo (s : State) (is : List Instr) (t : State) : Prop := steps is.length (issues s is) = .next t

/-- The next event of `s` is a transaction whose record decodes to `i`. -/
def performs (s : State) (i : Instr) : Prop :=
  ∃ ht rest, s.pending = .transaction ht :: rest ∧ decode ht = .instr i

/-- The next event of `s` is a reset, between two transactions or during one. -/
def resets (s : State) : Prop :=
  (∃ rest, s.pending = .reset :: rest) ∨ (∃ ht rest, s.pending = .resetDuring ht :: rest)

/-- The next event of `s` is an INIT that succeeds (R203, R605). -/
def startsComputation (s : State) : Prop :=
  ∃ alg ol, performs s (.init alg ol) ∧ ¬(alg = .blake2b ∧ s.keyovf = true)

/-- The next event of `s` is an ABSORBn or DIN write of the bytes `S`, in absorb order (R102, R103). -/
def absorbs (s : State) (S : List Byte) : Prop :=
  (∃ b0, performs s (.absorb1 b0) ∧ S = [b0]) ∨
  (∃ b0 b1, performs s (.absorb2 b0 b1) ∧ S = [b0, b1]) ∨
  (∃ b0 b1 b2, performs s (.absorb3 b0 b1 b2) ∧ S = [b0, b1, b2]) ∨
  (∃ w, performs s (.wrDin w) ∧ S = [w.extractLsb' 0 8, w.extractLsb' 8 8, w.extractLsb' 16 8, w.extractLsb' 24 8])

end Sys2Proof.Safety
end

