-- ==== Sys2Proof/Certificates/Slice0/Obligations.lean ====
section
/-! DEFINITION. The statements for the provers. Each says what an instruction or the machine does by the rules of spec/; the
docstring names them. Equalities `t = { s with … }` state the frame: every field not written there is unchanged. -/

open Sys2Proof Sys2Proof.Machine Sys2Proof.Safety

/-! ### Encoding (spec/30_encoding.md) -/

/-- R131, R134, R136: decoding the encoding of any well-formed instruction gives it back, with every operand at every value
the encoding admits. -/
def Obligations.DecodeOfEncodeIsIdentity : Prop :=
  ∀ i : Instr, i.wellFormed = true → decode (encode i) = .instr i

/-- R130, R136: what the decoder answers is well-formed and agrees with the record: the direction and the slot of its
encoding are the record's, and a write's encoding IS the record (a read ignores WDATA). -/
def Obligations.DecodedInstructionIsCanonical : Prop :=
  ∀ (ht : HT) (i : Instr), decode ht = .instr i →
    i.wellFormed = true ∧ htWe (encode i) = htWe ht ∧ htWidx (encode i) = htWidx ht ∧
      (htWe ht = true → encode i = ht)

/-- R135's list: the records that are illegal commands, spelled out by the bits of the command word. -/
def Obligations.IllegalRecordsAreExactlyTheListed : Prop :=
  ∀ ht : HT, decode ht = .illegal ↔
    (ht.getLsbD 37 = true ∧ ht.extractLsb' 32 5 = 0#5 ∧
      ((9#8 ≤ ht.extractLsb' 24 8) ∨
       ((ht.extractLsb' 24 8 = 0#8 ∨ ht.extractLsb' 24 8 = 4#8 ∨ ht.extractLsb' 24 8 = 8#8) ∧
          ht.extractLsb' 0 24 ≠ 0#24) ∨
       (ht.extractLsb' 24 8 = 1#8 ∧
          (ht.extractLsb' 15 9 ≠ 0#9 ∨ ht.extractLsb' 4 4 ≠ 0#4 ∨ 11#4 ≤ ht.extractLsb' 0 4 ∨
           65#7 ≤ ht.extractLsb' 8 7 ∨ (ht.extractLsb' 8 7 ≠ 0#7 ∧ ht.extractLsb' 0 4 ≠ 3#4))) ∨
       (ht.extractLsb' 24 8 = 2#8 ∧ ht.extractLsb' 18 6 ≠ 0#6) ∨
       ((ht.extractLsb' 24 8 = 3#8 ∨ ht.extractLsb' 24 8 = 5#8) ∧ ht.extractLsb' 8 16 ≠ 0#16) ∨
       (ht.extractLsb' 24 8 = 6#8 ∧ ht.extractLsb' 16 8 ≠ 0#8)))

/-- R217's list: a write to WIDX 1 or 3-31, a read of WIDX 0 or 2, any access to WIDX 7-15. -/
def Obligations.BusErrorsAreExactlyTheListed : Prop :=
  ∀ ht : HT, decode ht = .busErr ↔
    ((ht.getLsbD 37 = true ∧ (ht.extractLsb' 32 5 = 1#5 ∨ 3#5 ≤ ht.extractLsb' 32 5)) ∨
     (ht.getLsbD 37 = false ∧ (ht.extractLsb' 32 5 = 0#5 ∨ ht.extractLsb' 32 5 = 2#5)) ∨
     (7#5 ≤ ht.extractLsb' 32 5 ∧ ht.extractLsb' 32 5 ≤ 15#5))

/-- Words written out in section 3.1 of spec/95_test_vectors.md decode to the transactions they stand for. -/
def Obligations.SpecWordsDecode : Prop :=
  decode 0x2000000000#38 = .instr .nop ∧
  decode 0x2001001003#38 = .instr (.init .blake2b 16) ∧
  decode 0x200201ABCD#38 = .instr (.ldseed 1 0xABCD) ∧
  decode 0x2007646C72#38 = .instr (.absorb3 0x72 0x6C 0x64) ∧
  decode 0x226C6C6548#38 = .instr (.wrDin 0x6C6C6548) ∧
  decode 0x1F00000000#38 = .instr (.rdDout 15) ∧
  decode 0x2001004103#38 = .illegal ∧
  decode 0x2900000000#38 = .busErr

/-! ### The step -/

/-- R200: when the next event is a transaction whose record decodes to an instruction, the step is that instruction's
meaning, on the state with the event taken off the host's stream and nothing returned yet. -/
def Obligations.StepRunsTheDecodedInstruction : Prop :=
  ∀ (s : State) (ht : HT) (rest : List HostEvent) (i : Instr),
    holdsR67 s = true → s.pending = .transaction ht :: rest → decode ht = .instr i →
      step s = exec i { s with pending := rest, response := .nothing }

/-- R603: an illegal command word records E_ILLEGAL if ERR was 0, and has no other effect. -/
def Obligations.StepOnIllegalWordRaisesIllegal : Prop :=
  ∀ (s : State) (ht : HT) (rest : List HostEvent),
    holdsR67 s = true → s.pending = .transaction ht :: rest → decode ht = .illegal →
      step s = .next { s with
        pending := rest, response := .nothing, err := if s.err = .none then .illegal else s.err }

/-- R217, R602: a bus error records E_BUS if ERR was 0, a read returns 0, and nothing else changes. -/
def Obligations.StepOnBusErrorRaisesBus : Prop :=
  ∀ (s : State) (ht : HT) (rest : List HostEvent),
    holdsR67 s = true → s.pending = .transaction ht :: rest → decode ht = .busErr →
      step s = .next { s with
        pending := rest
        response := if ht.getLsbD 37 = true then .nothing else .rdata 0
        err := if s.err = .none then .bus else s.err }

/-- R50: nothing happens between transactions. -/
def Obligations.StepWithoutEventChangesNothing : Prop :=
  ∀ s : State, holdsR67 s = true → s.pending = [] → step s = .next s

/-- R700: after a reset between two transactions every register has the value of R700's table; the host's remaining events
are kept (the model's own, log entry 2). -/
def Obligations.ResetEventGivesResetState : Prop :=
  ∀ (s : State) (rest : List HostEvent), holdsR67 s = true → s.pending = .reset :: rest →
    ∃ t, step s = .next t ∧ isResetState t ∧ t.pending = rest ∧ t.response = .nothing

/-- R701: a reset during a transaction abandons it: the core is in the reset state, whatever the transaction was. Three
clauses are the model's choice, where the spec is silent: the host's remaining events are kept (`t.pending = rest`, log entry
2); the field response says that the transaction was cut short (log entry 3); and it holds some word, about which nothing is
said, for a read and none for a write (`v = none` exactly for a write, log entries 3 and 4). -/
def Obligations.ResetDuringTransactionAbandonsIt : Prop :=
  ∀ (s : State) (ht : HT) (rest : List HostEvent), holdsR67 s = true → s.pending = .resetDuring ht :: rest →
    ∃ t v, step s = .next t ∧ isResetState t ∧ t.pending = rest ∧ t.response = .cutShort v ∧
      (v = none ↔ ht.getLsbD 37 = true)

/-- R700: the state after reset, and its consequence: every readable slot reads 0. -/
def Obligations.ResetStateReadsZero : Prop :=
  isResetState State.reset ∧
    ∀ i ∈ [Instr.rdStatus, .rdMlen0, .rdMlen1, .rdSeed0, .rdSeed1] ++
        (List.range 16).map (fun k => Instr.rdDout (BitVec.ofNat 4 k)),
      exec i State.reset = .next { State.reset with response := .rdata 0 }

/-- R67, U2: a state that violates an invariant is a fault. -/
def Obligations.ViolatedInvariantIsAFault : Prop :=
  ∀ s : State, holdsR67 s = false → step s = .fault .invariantViolated

/-- R67, R54, R399: the check accepts exactly the states that meet R67's items 1 to 4 (item 2 with BLAKE2b's fill and counter
as R399 gives them) and show a DLEN of at most 64; item 5 holds by the type of ERR. -/
def Obligations.AcceptedStatesAreThoseOfR67 : Prop :=
  ∀ s : State, holdsR67 s = true ↔
    (s.mlen.toNat = s.msg.length ∧
     (s.phase = .active →
       (s.alg = .md5 → s.dp.md5.fill = s.msg.length % 64) ∧
       (s.alg = .sha512 → s.dp.sha512.fill = s.msg.length % 128) ∧
       (s.alg = .sha3_256 → s.dp.sha3.fill = s.msg.length % 136) ∧
       (s.alg = .blake2b →
         (s.ckey = [] → s.msg = [] → s.dp.blake2b.fill = 0) ∧
         (¬(s.ckey = [] ∧ s.msg = []) →
           s.dp.blake2b.fill = ((if s.ckey = [] then 0 else 128) + s.msg.length - 1) % 128 + 1) ∧
         s.dp.blake2b.t.toNat = (if s.ckey = [] then 0 else 128) + s.msg.length - s.dp.blake2b.fill) ∧
       (s.alg = .ripemd160 → s.dp.ripemd160.fill = s.msg.length % 64) ∧
       (s.alg = .tiger192 → s.dp.tiger.fill = s.msg.length % 64) ∧
       (s.alg = .murmur3_32 → s.dp.murmur3.fill = s.msg.length % 4) ∧
       (s.alg = .xxh64 → s.dp.xxh64.fill = s.msg.length % 32)) ∧
     (s.dlen ≠ 0 ↔ s.phase = .done) ∧ (s.phase = .done → s.dlen = s.outlen) ∧
     s.keylen.toNat ≤ 128 ∧ (s.keyovf = true → s.keylen.toNat = 128) ∧ s.dlen.toNat ≤ 64)

/-! ### Configuration and control commands (spec/40_host_commands.md, section 2) -/

/-- R202, whole: NOP leaves the state unchanged in any phase and any ERR state; its word is 0x00000000; with a reserved bit
set it raises E_ILLEGAL. -/
def Obligations.NopChangesNothing : Prop :=
  (∀ s : State, exec .nop s = .next s) ∧ encode .nop = 0x2000000000#38 ∧
    ∀ (s : State) (r : BitVec 24), r ≠ 0 →
      runTransaction (1#1 ++ 0#5 ++ 0x00#8 ++ r) s = .next (raise .illegal s)

/-- R203: a successful INIT, from any phase and any ERR, writes exactly what its pseudocode writes; the engine's registers
are those EngineInit sets. -/
def Obligations.InitStartsAComputation : Prop :=
  ∀ (s : State) (alg : Alg) (ol : BitVec 7), initLegal alg ol = true → ¬(alg = .blake2b ∧ s.keyovf = true) →
    ∃ t, exec (.init alg ol) s = .next t ∧
      t = { s with
        err := .none, alg := alg
        outlen := if ol ≠ 0 then ol else if alg = .blake2b then 64 else fixedLen alg
        cseed := s.seed
        ckey := if alg = .blake2b then s.key.toList.take s.keylen.toNat else []
        msg := [], mlen := 0, digest := Vector.replicate 64 0, dlen := 0, phase := .active, dp := t.dp } ∧
      engineAtStart alg t.outlen.toNat t.cseed t.ckey t.dp

/-- R605, whole: INIT BLAKE2b with KEYOVF = 1 records E_KEY if ERR was 0 and has no other effect, so no computation starts
and PHASE is kept; an INIT of any other algorithm raises nothing and does not read KEYOVF. -/
def Obligations.InitWithOverlongKeyRaisesKey : Prop :=
  (∀ (s : State) (ol : BitVec 7), s.keyovf = true →
    exec (.init .blake2b ol) s = .next { s with err := if s.err = .none then .key else s.err }) ∧
  (∀ (s : State) (alg : Alg) (ol : BitVec 7) (b : Bool), alg ≠ .blake2b →
    ∃ t, exec (.init alg ol) s = .next t ∧ t.err = .none ∧ t.phase = .active ∧
      exec (.init alg ol) { s with keyovf := b } = .next { t with keyovf := b })

/-- R133: OUTLEN as INIT chooses it. -/
def Obligations.InitChoosesTheDigestLength : Prop :=
  ∀ (s t : State) (alg : Alg) (ol : BitVec 7), initLegal alg ol = true → ¬(alg = .blake2b ∧ s.keyovf = true) →
    exec (.init alg ol) s = .next t →
      (alg = .blake2b → ol = 0 → t.outlen = 64) ∧ (alg = .blake2b → ol ≠ 0 → t.outlen = ol) ∧
      (alg = .md5 → t.outlen = 16) ∧ (alg = .sha512 → t.outlen = 64) ∧ (alg = .sha3_256 → t.outlen = 32) ∧
      (alg = .ripemd160 → t.outlen = 20) ∧ (alg = .tiger192 → t.outlen = 24) ∧ (alg = .crc16 → t.outlen = 2) ∧
      (alg = .crc32 → t.outlen = 4) ∧ (alg = .crc64 → t.outlen = 8) ∧ (alg = .murmur3_32 → t.outlen = 4) ∧
      (alg = .xxh64 → t.outlen = 8)

/-- R204, whole: LDSEED writes SEED[16K+15:16K], leaves the other 48 bits and every other register; its encoding; its illegal
words; chunks 2 and 3 do not reach SEED[31:0]; its example, read back. -/
def Obligations.LdseedWritesItsChunk : Prop :=
  (∀ (s : State) (k : BitVec 2) (imm : BitVec 16), ∃ t,
    exec (.ldseed k imm) s = .next t ∧ t = { s with seed := t.seed } ∧
    (∀ j < 64, t.seed.getLsbD j =
      if 16 * k.toNat ≤ j ∧ j < 16 * k.toNat + 16 then imm.getLsbD (j - 16 * k.toNat) else s.seed.getLsbD j) ∧
    (2 ≤ k.toNat → t.seed.extractLsb' 0 32 = s.seed.extractLsb' 0 32)) ∧
  (∀ (k : BitVec 2) (imm : BitVec 16), encode (.ldseed k imm) = (1#1 ++ 0#5 ++ 0x02#8 ++ 0#6 ++ k ++ imm)) ∧
  (∀ (s : State) (r : BitVec 6) (k : BitVec 2) (imm : BitVec 16), r ≠ 0 →
    runTransaction (1#1 ++ 0#5 ++ 0x02#8 ++ r ++ k ++ imm) s = .next (raise .illegal s)) ∧
  ∃ t, exec (.ldseed 1 0xABCD) State.reset = .next t ∧ t = { State.reset with seed := 0x00000000ABCD0000 } ∧
    exec .rdSeed0 t = .next { t with response := .rdata 0xABCD0000 } ∧
    exec .rdSeed1 t = .next { t with response := .rdata 0 }

/-- R205, whole: LDKEY appends a byte while KEYLEN < 128 (so a key of exactly 128 bytes is legal) and sets KEYOVF at 128,
which the next INIT BLAKE2b rejects; nothing else changes, in every phase and ERR; its encoding; its illegal words; its
example. -/
def Obligations.LdkeyAppendsOrOverflows : Prop :=
  (∀ (s : State) (b : Byte), s.keylen.toNat < 128 → ∃ t,
    exec (.ldkey b) s = .next t ∧ t = { s with key := t.key, keylen := t.keylen } ∧
    t.keylen.toNat = s.keylen.toNat + 1 ∧
    ∀ i : Fin 128, t.key[i] = if i.val = s.keylen.toNat then b else s.key[i]) ∧
  (∀ (s : State) (b : Byte), s.keylen.toNat = 128 → exec (.ldkey b) s = .next { s with keyovf := true } ∧
    ∀ ol, exec (.init .blake2b ol) { s with keyovf := true } =
      .next { s with keyovf := true, err := if s.err = .none then .key else s.err }) ∧
  (∀ b : Byte, encode (.ldkey b) = (1#1 ++ 0#5 ++ 0x03#8 ++ 0#16 ++ b)) ∧
  (∀ (s : State) (r : BitVec 16) (b : Byte), r ≠ 0 →
    runTransaction (1#1 ++ 0#5 ++ 0x03#8 ++ r ++ b) s = .next (raise .illegal s)) ∧
  ∃ t, exec (.ldkey 0x4B) State.reset = .next t ∧ t.key[0] = 0x4B ∧ t.keylen = 1 ∧
    exec .rdStatus t = .next { t with response := .rdata 0x00100000 }

/-- R206, whole: CLRKEY zeroes the key store and changes nothing else, in every phase and ERR; its word; its illegal words; it
is the only way, other than reset, to clear KEYOVF. -/
def Obligations.ClrkeyClearsTheKeyStore : Prop :=
  (∀ s : State, ∃ t, exec .clrkey s = .next t ∧ t = { s with key := t.key, keylen := 0, keyovf := false } ∧
    ∀ i : Fin 128, t.key[i] = 0) ∧
  encode .clrkey = 0x2004000000#38 ∧
  (∀ (s : State) (r : BitVec 24), r ≠ 0 →
    runTransaction (1#1 ++ 0#5 ++ 0x04#8 ++ r) s = .next (raise .illegal s)) ∧
  ∀ s t : State, step s = .next t → s.keyovf = true → t.keyovf = false → performs s .clrkey ∨ resets s

/-! ### Data commands and FINAL (spec/40_host_commands.md, section 3) -/

/-- R207-R211: with ERR = 0, ACTIVE and room below 2^64, ABSORB1, ABSORB2, ABSORB3 and WR DIN absorb their bytes, the lowest
byte of the word first (R102, R103): each goes through EngineAbsorb, MSG and MLEN grow, and nothing else changes (that the
registers of the engines not selected stay is the model's choice, log entry 7). -/
def Obligations.DataCommandsAbsorbTheirBytes : Prop :=
  ∀ (s : State) (b0 b1 b2 b3 : Byte), s.err = .none → s.phase = .active →
    (s.mlen.toNat + 1 ≤ 2 ^ 64 - 1 →
      exec (.absorb1 b0) s = .next { s with
        dp := engineAbsorb s.alg s.dp b0, msg := s.msg ++ [b0], mlen := s.mlen + 1 }) ∧
    (s.mlen.toNat + 2 ≤ 2 ^ 64 - 1 →
      exec (.absorb2 b0 b1) s = .next { s with
        dp := engineAbsorb s.alg (engineAbsorb s.alg s.dp b0) b1, msg := s.msg ++ [b0, b1], mlen := s.mlen + 2 }) ∧
    (s.mlen.toNat + 3 ≤ 2 ^ 64 - 1 →
      exec (.absorb3 b0 b1 b2) s = .next { s with
        dp := engineAbsorb s.alg (engineAbsorb s.alg (engineAbsorb s.alg s.dp b0) b1) b2
        msg := s.msg ++ [b0, b1, b2], mlen := s.mlen + 3 }) ∧
    (s.mlen.toNat + 4 ≤ 2 ^ 64 - 1 →
      exec (.wrDin (b3 ++ b2 ++ b1 ++ b0)) s = .next { s with
        dp := engineAbsorb s.alg (engineAbsorb s.alg (engineAbsorb s.alg (engineAbsorb s.alg s.dp b0) b1) b2) b3
        msg := s.msg ++ [b0, b1, b2, b3], mlen := s.mlen + 4 })

/-- R207: absorbing S and then T is absorbing S ‖ T, so no split of a message into transactions matters (R139). -/
def Obligations.AbsorbingInPartsIsAbsorbingAtOnce : Prop :=
  ∀ (s : State) (S T : List Byte), s.err = .none → s.phase = .active →
    s.mlen.toNat + S.length + T.length ≤ 2 ^ 64 - 1 →
      absorbBytes T (absorbBytes S s) = absorbBytes (S ++ T) s

/-- R604, whole: with ERR = 0 and PHASE IDLE or DONE, ABSORBn, WR DIN and FINAL record E_SEQ and have no other effect. -/
def Obligations.DataOutsideActiveRaisesSeq : Prop :=
  ∀ (s : State) (i : Instr), s.err = .none → (s.phase = .idle ∨ s.phase = .done) →
    (i = .final ∨ (∃ b0, i = .absorb1 b0) ∨ (∃ b0 b1, i = .absorb2 b0 b1) ∨ (∃ b0 b1 b2, i = .absorb3 b0 b1 b2) ∨
      (∃ w, i = .wrDin w)) →
    exec i s = .next { s with err := .seq }

/-- R606, whole: with ERR = 0 and ACTIVE, an absorb of n bytes that would take MLEN past 2^64 - 1 records E_LEN and absorbs
none of them, so MLEN stays exact; after E_LEN FINAL is discarded. -/
def Obligations.AbsorbPastTheLimitRaisesLen : Prop :=
  ∀ (s : State) (b0 b1 b2 : Byte) (w : Word), s.err = .none → s.phase = .active →
    (s.mlen.toNat + 1 > 2 ^ 64 - 1 → exec (.absorb1 b0) s = .next { s with err := .len }) ∧
    (s.mlen.toNat + 2 > 2 ^ 64 - 1 → exec (.absorb2 b0 b1) s = .next { s with err := .len }) ∧
    (s.mlen.toNat + 3 > 2 ^ 64 - 1 → exec (.absorb3 b0 b1 b2) s = .next { s with err := .len }) ∧
    (s.mlen.toNat + 4 > 2 ^ 64 - 1 → exec (.wrDin w) s = .next { s with err := .len }) ∧
    exec .final { s with err := .len } = .next { s with err := .len }

/-- R609: while ERR is not 0, ABSORBn, WR DIN and FINAL are discarded with no effect and no new error. -/
def Obligations.ErrorDiscardsDataAndFinal : Prop :=
  ∀ (s : State) (i : Instr), s.err ≠ .none →
    (i = .final ∨ (∃ b0, i = .absorb1 b0) ∨ (∃ b0 b1, i = .absorb2 b0 b1) ∨ (∃ b0 b1 b2, i = .absorb3 b0 b1 b2) ∨
      (∃ w, i = .wrDin w)) →
    exec i s = .next s

/-- R212, R262: FINAL on a running computation loads its digest, zero-filled, sets DLEN and PHASE, and keeps every register
but the datapath's, about which nothing is said. -/
def Obligations.FinalLoadsTheDigest : Prop :=
  ∀ s : State, s.err = .none → s.phase = .active → outlenLegal s.alg s.outlen →
    ∃ t, exec .final s = .next t ∧
      t = { s with digest := t.digest, dlen := s.outlen, phase := .done, dp := t.dp } ∧
      t.digest.toList =
        digestOf s.alg s.outlen.toNat s.cseed s.ckey s.msg ++ List.replicate (64 - s.outlen.toNat) 0

/-! ### Reads (spec/40_host_commands.md, section 4) -/

/-- R54, R213: RD STATUS returns the word whose fields are PHASE, ERR, ALG, DLEN, KEYOVF and KEYLEN at their bit positions,
reserved bits 0, and changes no register. -/
def Obligations.RdStatusReturnsTheFields : Prop :=
  ∀ s : State, ∃ w : Word, exec .rdStatus s = .next { s with response := .rdata w } ∧
    w.extractLsb' 0 2 = (match s.phase with | .idle => 0#2 | .active => 1#2 | .done => 2#2) ∧
    w.extractLsb' 2 2 = 0 ∧
    w.extractLsb' 4 4 = (match s.err with
      | .none => 0#4 | .bus => 1#4 | .illegal => 2#4 | .seq => 3#4 | .key => 4#4 | .len => 5#4) ∧
    w.extractLsb' 8 4 = (match s.alg with
      | .md5 => 0#4 | .sha512 => 1#4 | .sha3_256 => 2#4 | .blake2b => 3#4 | .ripemd160 => 4#4 | .tiger192 => 5#4
      | .crc16 => 6#4 | .crc32 => 7#4 | .crc64 => 8#4 | .murmur3_32 => 9#4 | .xxh64 => 10#4) ∧
    w.extractLsb' 12 7 = s.dlen ∧ w.getLsbD 19 = s.keyovf ∧ w.extractLsb' 20 8 = s.keylen ∧ w.extractLsb' 28 4 = 0

/-- R105, R214, R215: MLEN0 and SEED0 return bits 31:0, MLEN1 and SEED1 bits 63:32, of MLEN and of SEED; no register
changes. -/
def Obligations.LengthAndSeedReadsReturnTheHalves : Prop :=
  ∀ s : State,
    exec .rdMlen0 s = .next { s with response := .rdata (BitVec.ofNat 32 s.mlen.toNat) } ∧
    exec .rdMlen1 s = .next { s with response := .rdata (BitVec.ofNat 32 (s.mlen.toNat / 2 ^ 32)) } ∧
    exec .rdSeed0 s = .next { s with response := .rdata (BitVec.ofNat 32 s.seed.toNat) } ∧
    exec .rdSeed1 s = .next { s with response := .rdata (BitVec.ofNat 32 (s.seed.toNat / 2 ^ 32)) }

/-- R104, R216: DOUTi returns DIGEST[4i..4i+4) with the first byte in bits 31:24, in every phase, and changes no register;
outside DONE, in a state that meets the invariant, it returns 0. -/
def Obligations.RdDoutReturnsFourDigestBytes : Prop :=
  ∀ (s : State) (i : BitVec 4),
    exec (.rdDout i) s = .next { s with
      response := .rdata (s.digest.getD (4 * i.toNat) 0 ++ s.digest.getD (4 * i.toNat + 1) 0 ++
        s.digest.getD (4 * i.toNat + 2) 0 ++ s.digest.getD (4 * i.toNat + 3) 0) } ∧
    (StateInv s → s.phase ≠ .done → exec (.rdDout i) s = .next { s with response := .rdata 0 })

/-- R61, R612: the key bytes cannot be read back: two states that differ only in KEY and CKEY answer every read alike. -/
def Obligations.ReadsDoNotRevealTheKey : Prop :=
  ∀ (s : State) (key : Vector Byte 128) (ckey : List Byte) (i : Instr),
    i ∈ [Instr.rdStatus, .rdMlen0, .rdMlen1, .rdSeed0, .rdSeed1] ++
        (List.range 16).map (fun k => Instr.rdDout (BitVec.ofNat 4 k)) →
    ∃ v, exec i s = .next { s with response := .rdata v } ∧
      exec i { s with key := key, ckey := ckey } = .next { s with key := key, ckey := ckey, response := .rdata v }

/-! ### Whole-machine rules -/

/-- R601: raising an error writes its code only if ERR was 0, and nothing else. -/
def Obligations.RaiseWritesOnlyAClearErr : Prop :=
  ∀ (s : State) (e : Err), raise e s = { s with err := if s.err = .none then e else s.err }

/-- R608: a recorded error keeps its code over every step but a reset and a successful INIT, which clear it. -/
def Obligations.RecordedErrorIsSticky : Prop :=
  ∀ s t : State, step s = .next t → s.err ≠ .none →
    (t.err = s.err ∧ ¬ startsComputation s ∧ ¬ resets s) ∨ (t.err = .none ∧ (startsComputation s ∨ resets s))

/-- R55: PHASE becomes ACTIVE only by a successful INIT, DONE only by FINAL from ACTIVE with ERR = 0, IDLE only by reset. -/
def Obligations.PhaseMovesAsListed : Prop :=
  ∀ s t : State, step s = .next t →
    t.phase = s.phase ∨ (t.phase = .active ∧ startsComputation s) ∨
      (s.phase = .active ∧ s.err = .none ∧ t.phase = .done ∧ performs s .final) ∨ (t.phase = .idle ∧ resets s)

/-- R60: SEED changes only by LDSEED and reset. -/
def Obligations.SeedChangesOnlyByLdseedOrReset : Prop :=
  ∀ s t : State, step s = .next t → t.seed = s.seed ∨ (∃ k imm, performs s (.ldseed k imm)) ∨ resets s

/-- R61: the key store changes only by LDKEY, CLRKEY and reset. -/
def Obligations.KeyStoreChangesOnlyByKeyCommandsOrReset : Prop :=
  ∀ s t : State, step s = .next t →
    (t.key = s.key ∧ t.keylen = s.keylen ∧ t.keyovf = s.keyovf) ∨ (∃ b, performs s (.ldkey b)) ∨
      performs s .clrkey ∨ resets s

/-- R262, R63: DIGEST and DLEN change only by INIT, FINAL and reset. -/
def Obligations.DigestChangesOnlyByInitFinalOrReset : Prop :=
  ∀ s t : State, step s = .next t →
    (t.digest = s.digest ∧ t.dlen = s.dlen) ∨ startsComputation s ∨ performs s .final ∨ resets s

/-- R57, R62, R704: ALG, OUTLEN, CSEED and CKEY change only by a successful INIT and reset, so no configuration command
reaches a running computation. -/
def Obligations.ContextChangesOnlyByInitOrReset : Prop :=
  ∀ s t : State, step s = .next t →
    (t.alg = s.alg ∧ t.outlen = s.outlen ∧ t.cseed = s.cseed ∧ t.ckey = s.ckey) ∨ startsComputation s ∨ resets s

/-- R59, R62: MSG grows only by the bytes of an absorb on a running computation, all of them or none, and MLEN with it; it is
emptied only by a successful INIT and reset. -/
def Obligations.MessageGrowsOnlyByAbsorbs : Prop :=
  ∀ s t : State, step s = .next t →
    (t.msg = s.msg ∧ t.mlen = s.mlen) ∨
    (∃ S, absorbs s S ∧ s.phase = .active ∧ s.err = .none ∧ t.msg = s.msg ++ S ∧
      t.mlen.toNat = s.mlen.toNat + S.length) ∨
    (t.msg = [] ∧ t.mlen = 0 ∧ (startsComputation s ∨ resets s))

/-- The invariant holds at reset. -/
def Obligations.InvariantHoldsAtReset : Prop := StateInv State.reset

/-- R67: every step keeps the invariant, from every state that meets it. -/
def Obligations.EveryStepKeepsTheInvariant : Prop :=
  ∀ s t : State, StateInv s → step s = .next t → StateInv t

/-- R67, R260: from a state that meets the invariant a step neither faults nor is refused. -/
def Obligations.StepFromInvariantCompletes : Prop :=
  ∀ s : State, StateInv s → ∃ t, step s = .next t

/-! ### The digest function and streaming (spec/41_digest_and_stream.md) -/

/-- R264: EngineInit, EngineAbsorb on each byte of MSG in order, then EngineFinal return the digest of the whole message, for
every engine, every configuration and every message, whatever the registers held before. -/
def Obligations.StreamingEqualsWholeMessageDigest : Prop :=
  ∀ (alg : Alg) (outlen : Nat) (cseed : DWord) (ckey msg : List Byte) (dp : Datapath), ckey.length ≤ 128 →
    engineFinal alg outlen cseed msg.length
      (msg.foldl (engineAbsorb alg) (engineInit alg outlen cseed ckey dp)) = digestOf alg outlen cseed ckey msg

/-- R264 in the machine: in a state that meets the invariant, FINAL loads what EngineFinal reads from the datapath. -/
def Obligations.FinalEqualsEngineFinal : Prop :=
  ∀ s : State, StateInv s → s.phase = .active → s.err = .none →
    ∃ t, exec .final s = .next t ∧
      t.digest.toList = engineFinal s.alg s.outlen.toNat s.cseed s.mlen.toNat s.dp ++ zeros (64 - s.outlen.toNat)

/-- R261: the digest has the length its algorithm fixes, and OUTLEN bytes for BLAKE2b, for every message and configuration,
the empty message included. -/
def Obligations.DigestHasOutlenBytes : Prop :=
  ∀ (n : Nat) (cseed : DWord) (ckey msg : List Byte),
    (digestOf .md5 n cseed ckey msg).length = 16 ∧ (digestOf .sha512 n cseed ckey msg).length = 64 ∧
    (digestOf .sha3_256 n cseed ckey msg).length = 32 ∧
    (1 ≤ n → n ≤ 64 → (digestOf .blake2b n cseed ckey msg).length = n) ∧
    (digestOf .ripemd160 n cseed ckey msg).length = 20 ∧ (digestOf .tiger192 n cseed ckey msg).length = 24 ∧
    (digestOf .crc16 n cseed ckey msg).length = 2 ∧ (digestOf .crc32 n cseed ckey msg).length = 4 ∧
    (digestOf .crc64 n cseed ckey msg).length = 8 ∧ (digestOf .murmur3_32 n cseed ckey msg).length = 4 ∧
    (digestOf .xxh64 n cseed ckey msg).length = 8

/-- R266: a configuration an engine does not read has no effect on its digest. -/
def Obligations.UnreadConfigurationHasNoEffect : Prop :=
  ∀ (alg : Alg) (n n' : Nat) (cseed cseed' : DWord) (ckey ckey' msg : List Byte),
    (alg ≠ .blake2b → digestOf alg n cseed ckey msg = digestOf alg n' cseed ckey' msg) ∧
    (alg ≠ .murmur3_32 → alg ≠ .xxh64 → digestOf alg n cseed ckey msg = digestOf alg n cseed' ckey msg) ∧
    (cseed.extractLsb' 0 32 = cseed'.extractLsb' 0 32 →
      digestOf .murmur3_32 n cseed ckey msg = digestOf .murmur3_32 n cseed' ckey msg)

/-- R267, whole: pad64 is the message, the marker, the least number of zero bytes that reaches 56 mod 64, and the bit length
mod 2^64, lowest byte first; its length is a multiple of 64; MD5 and RIPEMD-160 use 0x80, Tiger 0x01. -/
def Obligations.Pad64IsTheLeastPadding : Prop :=
  (∀ (m : Byte) (M : List Byte), ∃ k,
    pad64 m M = M ++ [m] ++ List.replicate k 0#8 ++
      (List.range 8).map (fun j => BitVec.ofNat 8 (8 * M.length % 2 ^ 64 / 2 ^ (8 * j))) ∧
    (M.length + 1 + k) % 64 = 56 ∧ (∀ j < k, (M.length + 1 + j) % 64 ≠ 56) ∧ (pad64 m M).length % 64 = 0) ∧
  md5Pad = pad64 0x80 ∧ rmdPad = pad64 0x80 ∧ tigerPad = pad64 0x01

/-- R268, whole: the number of 64-byte blocks, with the boundary cases. -/
def Obligations.PaddedBlockCount : Prop :=
  ∀ (m : Byte) (M : List Byte), (pad64 m M).length / 64 = (M.length + 8) / 64 + 1 ∧
    (M.length = 55 → (pad64 m M).length / 64 = 1) ∧ (M.length = 56 → (pad64 m M).length / 64 = 2) ∧
    (M.length = 63 → (pad64 m M).length / 64 = 2) ∧ (M.length = 64 → (pad64 m M).length / 64 = 2) ∧
    (M.length = 119 → (pad64 m M).length / 64 = 2) ∧ (M.length = 120 → (pad64 m M).length / 64 = 3)

/-- R336: SHA-512's padding, with the exact 128-bit bit length, highest byte first. -/
def Obligations.Sha512PadIsTheLeastPadding : Prop :=
  ∀ M : List Byte, M.length < 2 ^ 64 → ∃ k,
    sha512Pad M = M ++ [0x80#8] ++ List.replicate k 0#8 ++
      (List.range 16).map (fun j => BitVec.ofNat 8 (8 * M.length / 2 ^ (8 * (15 - j)))) ∧
    (M.length + 1 + k) % 128 = 112 ∧ (∀ j < k, (M.length + 1 + j) % 128 ≠ 112) ∧ (sha512Pad M).length % 128 = 0 ∧
    (M.length = 111 → (sha512Pad M).length = 128) ∧ (M.length = 112 → (sha512Pad M).length = 256) ∧
    (M.length = 128 → (sha512Pad M).length = 256)

/-- R369: SHA3's final block for q buffered bytes, with its corner cases q = 135 and q = 0. -/
def Obligations.Sha3FinalBlockBytes : Prop :=
  ∀ L : List Byte, L.length ≤ 135 →
    (sha3FinalBlock L).length = 136 ∧
    (∀ i < L.length, byteAt (sha3FinalBlock L) i = byteAt L i) ∧
    (L.length < 135 → byteAt (sha3FinalBlock L) L.length = 0x06 ∧ byteAt (sha3FinalBlock L) 135 = 0x80 ∧
      ∀ i, L.length < i → i < 135 → byteAt (sha3FinalBlock L) i = 0) ∧
    (L.length = 135 → byteAt (sha3FinalBlock L) 135 = 0x86)

/-- R399: BLAKE2b's fill count and byte counter after any message: FILL = 0 for an empty input, ((N - 1) mod 128) + 1
otherwise, and T = N - FILL, with N = 128·[len(CKEY) > 0] + len(MSG). -/
def Obligations.Blake2bFillInvariant : Prop :=
  ∀ (outlen : Nat) (cseed : DWord) (ckey msg : List Byte) (dp : Datapath), ckey.length ≤ 128 → msg.length < 2 ^ 64 →
    let r := (msg.foldl (engineAbsorb .blake2b) (engineInit .blake2b outlen cseed ckey dp)).blake2b
    let N := (if ckey = [] then 0 else 128) + msg.length
    (N = 0 → r.fill = 0) ∧ (N ≠ 0 → r.fill = (N - 1) % 128 + 1) ∧ r.t.toNat = N - r.fill

/-- R504, R509: the CRC tables are what their generating loops give. -/
def Obligations.CrcTablesAreGenerated : Prop :=
  ∀ n < 256,
    crcT32.getD n 0 = iter (fun c => if c.getLsbD 0 then (c >>> 1) ^^^ 0xEDB88320 else c >>> 1) 8 (BitVec.ofNat 32 n) ∧
    crcT64.getD n 0 =
      iter (fun c => if c.getLsbD 63 then (c <<< 1) ^^^ 0x42F0E1EBA9EA3693 else c <<< 1) 8 (BitVec.ofNat 64 n <<< 56)

/-- R11: reading a word back from its serialization gives it, in both byte orders, and the two serializations are each
other's reverse. -/
def Obligations.SerializationsReadBack : Prop :=
  (∀ v : Word, leRead 32 (leBytes v) 0 = v ∧ beRead 32 (beBytes v) 0 = v ∧ beBytes v = (leBytes v).reverse) ∧
  (∀ v : DWord, leRead 64 (leBytes v) 0 = v ∧ beRead 64 (beBytes v) 0 = v ∧ beBytes v = (leBytes v).reverse)

/-- Intermediate values written out in the engine files: MD5's first step (R305), BLAKE2b's parameter
word (R391), CRC-16's byte (R501), MurmurHash3's mix (R541), xxHash64's round (R551). -/
def Obligations.SpecIntermediateValues : Prop :=
  (md5Step (0x00000080 :: List.replicate 15 0) #v[0x67452301, 0xEFCDAB89, 0x98BADCFE, 0x10325476] 0)[1] = 0xA5202774 ∧
  (blake2bParam 64 0)[0] = 0x6A09E667F2BDC948 ∧ (blake2bParam 16 11)[0] = 0x6A09E667F2BDC218 ∧
  crc16Byte 0xFFFF 0x61 = 0x9D77 ∧ mm3MixK 0 = 0 ∧ mm3MixH 0 0 = 0xE6546B64 ∧ xxhRound 0 0 = 0

/-! ### The pseudo-instructions (R139) -/

/-- R139, R204: SETSEED leaves SEED = v, whatever it was, and changes nothing else. -/
def Obligations.SetSeedSequenceLoadsTheSeed : Prop :=
  ∀ (s : State) (v : DWord), StateInv s →
    runsTo s (asmSetSeed v) { s with seed := v, pending := [], response := .nothing }

/-- R139, R205, R206: SETKEY leaves exactly its bytes as the key, and over 128 bytes leaves KEYOVF = 1. -/
def Obligations.SetKeySequenceLoadsTheKey : Prop :=
  ∀ (s : State) (K : List Byte), StateInv s → ∃ t, runsTo s (asmSetKey K) t ∧
    t = { s with key := t.key, keylen := t.keylen, keyovf := t.keyovf, pending := [], response := .nothing } ∧
    t.key.toList.take t.keylen.toNat = K.take 128 ∧ t.keylen.toNat = min K.length 128 ∧
    (t.keyovf = true ↔ 128 < K.length)

/-- R139, R703: HASH, from any state that meets the invariant, in any phase and any ERR, completes with the digest of its
bytes under the SEED and KEY of that moment, DONE and without error. -/
def Obligations.HashSequenceLoadsTheDigest : Prop :=
  ∀ (s : State) (alg : Alg) (n : BitVec 7) (S : List Byte), StateInv s → initLegal alg n = true →
    ¬(alg = .blake2b ∧ s.keyovf = true) → S.length < 2 ^ 64 →
    ∃ t, runsTo s (asmHash alg n S) t ∧ t.phase = .done ∧ t.err = .none ∧ t.alg = alg ∧
      t.dlen = (if n = 0 then fixedLen alg else n) ∧ t.mlen.toNat = S.length ∧
      t.digest.toList =
        digestOf alg t.dlen.toNat s.seed (if alg = .blake2b then s.key.toList.take s.keylen.toNat else []) S ++
          List.replicate (64 - t.dlen.toNat) 0
end

