-- ==== Sys2Proof/Laws/Bytes.lean ====
section
/-! SUPPORT. Lengths and entries of the byte-sequence operations of Machine/Bytes.lean. -/

namespace Sys2Proof.Machine

@[simp] theorem length_zeros (n : Nat) : (zeros n).length = n := by simp [zeros]

@[simp] theorem length_leBytes {N : Nat} (v : BitVec N) : (leBytes v).length = N / 8 := by simp [leBytes]

@[simp] theorem length_beBytes {N : Nat} (v : BitVec N) : (beBytes v).length = N / 8 := by simp [beBytes]

theorem length_flatMap_const {α β : Type} (f : α → List β) (c : Nat) (hf : ∀ a, (f a).length = c) (l : List α) :
    (l.flatMap f).length = l.length * c := by
  induction l with
  | nil => simp
  | cons a l ih => simp [hf, ih, Nat.succ_mul, Nat.add_comm]

@[simp] theorem length_leSerialize {N n : Nat} (h : Vector (BitVec N) n) : (leSerialize h).length = n * (N / 8) := by
  simp [leSerialize, length_flatMap_const leBytes (N / 8)]

@[simp] theorem length_beSerialize {N n : Nat} (h : Vector (BitVec N) n) : (beSerialize h).length = n * (N / 8) := by
  simp [beSerialize, length_flatMap_const beBytes (N / 8)]

@[simp] theorem length_slice (B : List Byte) (a b : Nat) : (slice B a b).length = min (b - a) (B.length - a) := by
  simp [slice]

/-- A byte sequence of at most n bytes, put in a buffer, is itself and zeros. -/
theorem toList_toBuffer (n : Nat) (B : List Byte) (h : B.length ≤ n) :
    (toBuffer n B).toList = B ++ zeros (n - B.length) := by
  apply List.ext_getElem
  · simp; omega
  · intro i h1 h2
    simp only [toBuffer, Vector.toList_ofFn, List.getElem_ofFn, byteAt, zeros]
    by_cases hi : i < B.length
    · simp [hi, List.getElem_append_left]
    · simp [hi, List.getElem_append_right, Nat.le_of_not_lt hi]

end Sys2Proof.Machine
end

