-- ==== Sys2Proof/Laws/Decode.lean ====
section
/-! SUPPORT. The fields of a record built from its parts (R130 of spec/30_encoding.md), and of the words commands are built
from (R131). -/

namespace Sys2Proof

/-- Where each bit of a record comes from. -/
theorem getLsbD_mkHT (we : Bool) (widx : BitVec 5) (w : Word) (i : Nat) :
    (mkHT we widx w).getLsbD i =
      if i < 32 then w.getLsbD i else if i < 37 then widx.getLsbD (i - 32) else (decide (i = 37) && we) := by
  have h : (mkHT we widx w).getLsbD i = ((BitVec.ofBool we ++ widx) ++ w : BitVec (1 + 5 + 32)).getLsbD i := rfl
  rw [h, BitVec.getLsbD_append, BitVec.getLsbD_append]
  by_cases h1 : i < 32
  · rw [if_pos h1, if_pos h1]
  · rw [if_neg h1, if_neg h1]
    by_cases h2 : i < 37
    · rw [if_pos (by omega), if_pos h2]
    · rw [if_neg (by omega), if_neg h2, BitVec.getLsbD_ofBool]
      congr 1
      simp
      omega

@[simp] theorem htWe_mkHT (we : Bool) (widx : BitVec 5) (w : Word) : htWe (mkHT we widx w) = we := by
  rw [htWe, getLsbD_mkHT]
  rfl

@[simp] theorem htWidx_mkHT (we : Bool) (widx : BitVec 5) (w : Word) : htWidx (mkHT we widx w) = widx := by
  apply BitVec.eq_of_getLsbD_eq
  intro i hi
  rw [htWidx, BitVec.getLsbD_extractLsb', getLsbD_mkHT, if_neg (by omega), if_pos (by omega), Nat.add_sub_cancel_left]
  simp [hi]

@[simp] theorem htWdata_mkHT (we : Bool) (widx : BitVec 5) (w : Word) : htWdata (mkHT we widx w) = w := by
  apply BitVec.eq_of_getLsbD_eq
  intro i hi
  rw [htWdata, BitVec.getLsbD_extractLsb', getLsbD_mkHT, if_pos (by omega), Nat.zero_add]
  simp [hi]

/-- A record is the concatenation of its three fields. -/
theorem mkHT_fields (ht : HT) : mkHT (htWe ht) (htWidx ht) (htWdata ht) = ht := by
  apply BitVec.eq_of_getLsbD_eq
  intro i hi
  rw [getLsbD_mkHT]
  split
  · next h => rw [htWdata, BitVec.getLsbD_extractLsb', Nat.zero_add]; simp [h]
  · split
    · rw [htWidx, BitVec.getLsbD_extractLsb', Nat.add_sub_cancel' (by omega)]
      rw [decide_eq_true (by omega), Bool.true_and]
    · obtain rfl : i = 37 := by omega
      rfl

/-- The low bits of a concatenation are its right part. -/
theorem extractLsb'_append_right {m n : Nat} (a : BitVec m) (b : BitVec n) : (a ++ b).extractLsb' 0 n = b := by
  apply BitVec.eq_of_getLsbD_eq
  intro i hi
  rw [BitVec.getLsbD_extractLsb', BitVec.getLsbD_append, Nat.zero_add, if_pos hi]
  simp [hi]

/-- The high bits of a concatenation are its left part. -/
theorem extractLsb'_append_left {m n : Nat} (a : BitVec m) (b : BitVec n) : (a ++ b).extractLsb' n m = a := by
  apply BitVec.eq_of_getLsbD_eq
  intro i hi
  rw [BitVec.getLsbD_extractLsb', BitVec.getLsbD_append, if_neg (by omega), Nat.add_sub_cancel_left]
  simp [hi]

/-- Every algorithm is the one its id names (R57). -/
@[simp] theorem algOfId_algId (alg : Alg) : algOfId (algId alg) = some alg := by cases alg <;> rfl

/-- Only the algorithm's own id names it. -/
theorem algId_of_algOfId (a : BitVec 4) (alg : Alg) (h : algOfId a = some alg) : algId alg = a := by
  have hall : ∀ a : BitVec 4, ∀ alg ∈ algOfId a, algId alg = a := by decide
  exact hall a alg h

end Sys2Proof
end

