-- ==== Sys2Proof/Laws/Stream.lean ====
section
/-! SUPPORT. What the eager rule and the whole-message fold of Machine/Stream.lean do, said once. -/

namespace Sys2Proof.Machine

variable {σ : Type} {C : Nat} (f : σ → List Byte → σ)

theorem slice_append_left (P Q : List Byte) (a b : Nat) (h : b ≤ P.length) : slice (P ++ Q) a b = slice P a b := by
  unfold slice
  by_cases ha : a ≤ P.length
  · rw [List.drop_append_of_le_length ha, List.take_append_of_le_length]; simp; omega
  · have hb : b - a = 0 := by omega
    simp [hb]

theorem slice_append_right (P Q : List Byte) (a b : Nat) : slice (P ++ Q) (P.length + a) (P.length + b) = slice Q a b := by
  unfold slice
  have h : P.length + b - (P.length + a) = b - a := by omega
  rw [h, List.drop_append, List.drop_eq_nil_of_le (by omega)]
  simp

/-- A fold over whole blocks followed by more bytes is the fold over the blocks, then over the rest. -/
theorem foldBlocks_append (hC : 0 < C) (h : σ) (P Q : List Byte) (hP : P.length % C = 0) :
    foldBlocks C f h (P ++ Q) = foldBlocks C f (foldBlocks C f h P) Q := by
  obtain ⟨n, hn⟩ : ∃ n, P.length = C * n := ⟨P.length / C, by have := Nat.div_add_mod P.length C; omega⟩
  unfold foldBlocks
  have e1 : (P ++ Q).length / C = n + Q.length / C := by
    rw [List.length_append, hn, Nat.mul_add_div hC]
  have e2 : P.length / C = n := by rw [hn, Nat.mul_div_cancel_left _ hC]
  rw [e1, e2, List.range_add, List.foldl_append, List.foldl_map]
  have s1 : (List.range n).foldl (fun h j => f h (slice (P ++ Q) (C * j) (C * j + C))) h =
      (List.range n).foldl (fun h j => f h (slice P (C * j) (C * j + C))) h := by
    apply List.foldl_ext
    intro a j hj
    rw [slice_append_left]
    rw [List.mem_range] at hj
    rw [hn, ← Nat.mul_succ]
    exact Nat.mul_le_mul_left C hj
  rw [s1]
  apply List.foldl_ext
  intro a j _
  have e3 : C * (n + j) = P.length + C * j := by rw [hn, Nat.mul_add]
  rw [e3, Nat.add_assoc, slice_append_right]

/-- One whole block is one compression. -/
theorem foldBlocks_single (hC : 0 < C) (h : σ) (B : List Byte) (hB : B.length = C) : foldBlocks C f h B = f h B := by
  unfold foldBlocks
  rw [hB, Nat.div_self hC]
  simp [slice, ← hB]

/-- Fewer bytes than a block leave the fold where it was. -/
theorem foldBlocks_short (h : σ) (B : List Byte) (hB : B.length < C) : foldBlocks C f h B = h := by
  unfold foldBlocks
  rw [Nat.div_eq_of_lt hB]
  rfl

/-- The bytes of M that fill no whole block. -/
def lastPartial (C : Nat) (M : List Byte) : List Byte := M.drop (C * (M.length / C))

theorem length_lastPartial (C : Nat) (M : List Byte) : (lastPartial C M).length = M.length % C := by
  have := Nat.div_add_mod M.length C
  simp only [lastPartial, List.length_drop]
  omega

theorem wholeBlocks_append_lastPartial (C : Nat) (M : List Byte) :
    M.take (C * (M.length / C)) ++ lastPartial C M = M := List.take_append_drop _ _

theorem length_wholeBlocks (C : Nat) (M : List Byte) : (M.take (C * (M.length / C))).length = C * (M.length / C) := by
  have := Nat.mul_div_le M.length C
  simp; omega

/-- The fold over a message with anything appended: the fold over the message, then over its partial block with the same
appended. This is what lets a digest be finished from BUF alone. -/
theorem foldBlocks_append_partial (hC : 0 < C) (h : σ) (M T : List Byte) :
    foldBlocks C f h (M ++ T) = foldBlocks C f (foldBlocks C f h M) (lastPartial C M ++ T) := by
  have hw : (M.take (C * (M.length / C))).length % C = 0 := by rw [length_wholeBlocks]; exact Nat.mul_mod_right ..
  have hM : foldBlocks C f h M = foldBlocks C f h (M.take (C * (M.length / C))) := by
    conv_lhs => rw [← wholeBlocks_append_lastPartial C M]
    rw [foldBlocks_append f hC _ _ _ hw, foldBlocks_short]
    rw [length_lastPartial]; exact Nat.mod_lt _ hC
  conv_lhs => rw [← wholeBlocks_append_lastPartial C M, List.append_assoc]
  rw [foldBlocks_append f hC _ _ _ hw, hM]

/-- What one byte does to the buffer when there is room. -/
theorem take_setIfInBounds_succ (buf : Vector Byte C) (n : Nat) (b : Byte) (h : n < C) :
    (buf.setIfInBounds n b).toList.take (n + 1) = buf.toList.take n ++ [b] := by
  apply List.ext_getElem
  · simp; omega
  · intro i h1 h2
    simp at h1 h2
    rw [List.getElem_take, Vector.getElem_toList, Vector.getElem_setIfInBounds (by omega)]
    by_cases hi : i = n
    · subst hi; simp
    · have : i < n := by omega
      rw [List.getElem_append_left (by simp; omega)]
      simp [Ne.symm hi]

/-- The datapath of an eager engine after the bytes M of a computation that started from `h0` (R265): every whole block of M
has been compressed, BUF[0..FILL) holds the rest, and FILL is its length. -/
structure Absorbed (C : Nat) (f : σ → List Byte → σ) (h0 : σ) (M : List Byte) (r : EagerRegs σ C) : Prop where
  chain : r.chain = foldBlocks C f h0 M
  fill : r.fill = M.length % C
  partialBlock : r.partialBlock = lastPartial C M

theorem eagerInit_absorbed (h0 : σ) (r : EagerRegs σ C) : Absorbed C f h0 [] (eagerInit h0 r) where
  chain := by simp [eagerInit, foldBlocks]
  fill := by simp [eagerInit]
  partialBlock := by simp [eagerInit, EagerRegs.partialBlock, lastPartial]

theorem lastPartial_append_singleton (hC : 0 < C) (M : List Byte) (b : Byte) :
    lastPartial C (M ++ [b]) = if M.length % C + 1 = C then [] else lastPartial C M ++ [b] := by
  have hd := Nat.div_add_mod M.length C
  have hm := Nat.mod_lt M.length hC
  split
  · next h =>
    have : (M ++ [b]).length = C * (M.length / C + 1) := by simp [Nat.mul_add]; omega
    unfold lastPartial
    rw [this, Nat.mul_div_cancel_left _ hC, ← this]
    simp
  · next h =>
    have h' : (M ++ [b]).length / C = M.length / C := by
      have e : (M ++ [b]).length = C * (M.length / C) + (M.length % C + 1) := by simp; omega
      rw [e, Nat.mul_add_div hC, Nat.div_eq_of_lt (a := M.length % C + 1) (by omega), Nat.add_zero]
    unfold lastPartial
    rw [h', List.drop_append_of_le_length (Nat.mul_div_le _ _)]

theorem eagerAbsorb_absorbed (hC : 0 < C) (h0 : σ) (M : List Byte) (b : Byte) (r : EagerRegs σ C)
    (h : Absorbed C f h0 M r) : Absorbed C f h0 (M ++ [b]) (eagerAbsorb f r b) := by
  have hm := Nat.mod_lt M.length hC
  have hfill := h.fill
  have hbuf : (r.buf.setIfInBounds r.fill b).toList.take (r.fill + 1) = lastPartial C M ++ [b] := by
    rw [take_setIfInBounds_succ _ _ _ (by omega)]
    have := h.partialBlock
    unfold EagerRegs.partialBlock at this
    rw [this]
  have hchain := foldBlocks_append_partial f hC h0 M [b]
  have hlen : (lastPartial C M ++ [b]).length = r.fill + 1 := by simp [length_lastPartial]; omega
  unfold eagerAbsorb
  split
  · next hfull =>
    have htake : (r.buf.setIfInBounds r.fill b).toList = lastPartial C M ++ [b] := by
      rw [← hbuf, hfull, List.take_of_length_le]; simp
    refine ⟨?_, ?_, ?_⟩
    · simp only []
      rw [htake, h.chain, hchain, foldBlocks_single f hC (foldBlocks C f h0 M) (lastPartial C M ++ [b]) (by omega)]
    · simp only [List.length_append, List.length_singleton]
      rw [Nat.add_mod, ← hfill]
      by_cases h1 : C = 1
      · subst h1; simp [Nat.mod_one]
      · rw [Nat.mod_eq_of_lt (by omega : 1 < C), hfull, Nat.mod_self]
    · rw [lastPartial_append_singleton hC, if_pos (by omega)]
      simp [EagerRegs.partialBlock]
  · next hroom =>
    refine ⟨?_, ?_, ?_⟩
    · simp only []
      rw [h.chain, hchain, foldBlocks_short f (foldBlocks C f h0 M) (lastPartial C M ++ [b]) (by omega)]
    · simp only [List.length_append, List.length_singleton]
      have hd := Nat.div_add_mod M.length C
      have e : M.length + 1 = C * (M.length / C) + (r.fill + 1) := by omega
      rw [e, Nat.mul_add_mod, Nat.mod_eq_of_lt (by omega)]
    · rw [lastPartial_append_singleton hC, if_neg (by omega)]
      exact hbuf

/-- The spec lemma of the eager rule (R265): EngineInit, then EngineAbsorb on each byte of M. -/
theorem eager_stream (hC : 0 < C) (h0 : σ) (M : List Byte) (r : EagerRegs σ C) :
    Absorbed C f h0 M (M.foldl (eagerAbsorb f) (eagerInit h0 r)) := by
  induction M using List.reverseRecOn with
  | nil => exact eagerInit_absorbed f h0 r
  | append_singleton M b ih =>
    rw [List.foldl_append]
    exact eagerAbsorb_absorbed f hC h0 M b _ ih

/-- The padding depends on the length modulo the block only. -/
theorem padZeros_mod (C target len : Nat) : padZeros C target (len % C) = padZeros C target len := by
  simp [padZeros]

/-- Padding the partial block after the whole blocks is padding the message. -/
theorem foldBlocks_padBlock (hC : 0 < C) (h : σ) (target : Nat) (m : Byte) (L M : List Byte) :
    foldBlocks C f h (padBlock C target m L M) =
      foldBlocks C f (foldBlocks C f h M) (padBlock C target m L (lastPartial C M)) := by
  simp only [padBlock, List.append_assoc, length_lastPartial, padZeros_mod]
  exact foldBlocks_append_partial f hC h M _

end Sys2Proof.Machine
end

