-- ==== Sys2Proof/Laws/Engines.lean ====
section
/-! SUPPORT. What EngineAbsorb over a whole message does: it works on the selected engine's registers alone, and BLAKE2b's
held-back block rule (R399) said once. -/

namespace Sys2Proof.Machine

/-! Absorbing M into engine ALG is a fold over that engine's own registers. -/

theorem foldl_engineAbsorb_md5 (M : List Byte) (dp : Datapath) :
    M.foldl (engineAbsorb .md5) dp = { dp with md5 := M.foldl md5Absorb dp.md5 } := by
  induction M generalizing dp with
  | nil => rfl
  | cons b M ih => exact ih _

theorem foldl_engineAbsorb_sha512 (M : List Byte) (dp : Datapath) :
    M.foldl (engineAbsorb .sha512) dp = { dp with sha512 := M.foldl sha512Absorb dp.sha512 } := by
  induction M generalizing dp with
  | nil => rfl
  | cons b M ih => exact ih _

theorem foldl_engineAbsorb_sha3_256 (M : List Byte) (dp : Datapath) :
    M.foldl (engineAbsorb .sha3_256) dp = { dp with sha3 := M.foldl sha3AbsorbByte dp.sha3 } := by
  induction M generalizing dp with
  | nil => rfl
  | cons b M ih => exact ih _

theorem foldl_engineAbsorb_blake2b (M : List Byte) (dp : Datapath) :
    M.foldl (engineAbsorb .blake2b) dp = { dp with blake2b := M.foldl blake2bAbsorb dp.blake2b } := by
  induction M generalizing dp with
  | nil => rfl
  | cons b M ih => exact ih _

theorem foldl_engineAbsorb_ripemd160 (M : List Byte) (dp : Datapath) :
    M.foldl (engineAbsorb .ripemd160) dp = { dp with ripemd160 := M.foldl rmdAbsorb dp.ripemd160 } := by
  induction M generalizing dp with
  | nil => rfl
  | cons b M ih => exact ih _

theorem foldl_engineAbsorb_tiger192 (M : List Byte) (dp : Datapath) :
    M.foldl (engineAbsorb .tiger192) dp = { dp with tiger := M.foldl tigerAbsorb dp.tiger } := by
  induction M generalizing dp with
  | nil => rfl
  | cons b M ih => exact ih _

theorem foldl_engineAbsorb_crc16 (M : List Byte) (dp : Datapath) :
    M.foldl (engineAbsorb .crc16) dp = { dp with crc16 := M.foldl crc16Byte dp.crc16 } := by
  induction M generalizing dp with
  | nil => rfl
  | cons b M ih => exact ih _

theorem foldl_engineAbsorb_crc32 (M : List Byte) (dp : Datapath) :
    M.foldl (engineAbsorb .crc32) dp = { dp with crc32 := M.foldl crc32Byte dp.crc32 } := by
  induction M generalizing dp with
  | nil => rfl
  | cons b M ih => exact ih _

theorem foldl_engineAbsorb_crc64 (M : List Byte) (dp : Datapath) :
    M.foldl (engineAbsorb .crc64) dp = { dp with crc64 := M.foldl crc64Byte dp.crc64 } := by
  induction M generalizing dp with
  | nil => rfl
  | cons b M ih => exact ih _

theorem foldl_engineAbsorb_murmur3_32 (M : List Byte) (dp : Datapath) :
    M.foldl (engineAbsorb .murmur3_32) dp = { dp with murmur3 := M.foldl mm3Absorb dp.murmur3 } := by
  induction M generalizing dp with
  | nil => rfl
  | cons b M ih => exact ih _

theorem foldl_engineAbsorb_xxh64 (M : List Byte) (dp : Datapath) :
    M.foldl (engineAbsorb .xxh64) dp = { dp with xxh64 := M.foldl xxhAbsorb dp.xxh64 } := by
  induction M generalizing dp with
  | nil => rfl
  | cons b M ih => exact ih _

theorem length_blake2bKeyBlock (K : List Byte) (hK : K.length ≤ 128) :
    (blake2bKeyBlock K).length = if K = [] then 0 else 128 := by
  unfold blake2bKeyBlock
  cases K with
  | nil => rfl
  | cons b K =>
    have hb : (b :: K).length ≤ 128 := hK
    rw [if_pos (by simp), if_neg (by simp), List.length_append, length_zeros]
    omega

/-- BLAKE2b's registers after the compression input D (R399): every block but the last has been compressed with last = false,
and BUF[0..FILL) holds the last one, full or not. -/
structure B2bAbsorbed (c0 : Blake2bChain) (D : List Byte) (r : Blake2bRegs) : Prop where
  chain : ({ h := r.h, t := r.t } : Blake2bChain) =
    foldBlocks 128 (blake2bCompress false) c0 (D.take (128 * (blake2bBlocks D.length - 1)))
  held : r.buf.toList.take r.fill = D.drop (128 * (blake2bBlocks D.length - 1))
  fill : r.fill = D.length - 128 * (blake2bBlocks D.length - 1)

/-- How many bytes the last block holds. -/
theorem blake2bBlocks_bounds (N : Nat) :
    128 * (blake2bBlocks N - 1) ≤ N ∧ N - 128 * (blake2bBlocks N - 1) ≤ 128 ∧
      (N = 0 ∨ 1 ≤ N - 128 * (blake2bBlocks N - 1)) := by
  unfold blake2bBlocks
  omega

theorem blake2bAbsorb_absorbed (c0 : Blake2bChain) (D : List Byte) (b : Byte) (r : Blake2bRegs)
    (h : B2bAbsorbed c0 D r) : B2bAbsorbed c0 (D ++ [b]) (blake2bAbsorb r b) := by
  obtain ⟨hc, hh, hf⟩ := h
  obtain ⟨b1, b2, b3⟩ := blake2bBlocks_bounds D.length
  by_cases hfull : r.fill = 128
  · have hn : blake2bBlocks (D ++ [b]).length - 1 = blake2bBlocks D.length := by
      simp only [List.length_append, List.length_singleton]
      unfold blake2bBlocks at *
      omega
    have hN : D.length = 128 * blake2bBlocks D.length := by
      unfold blake2bBlocks at *
      omega
    have hbuf : r.buf.toList = D.drop (128 * (blake2bBlocks D.length - 1)) := by
      rw [← hh, hfull, List.take_of_length_le]
      simp
    have hlen : (D.drop (128 * (blake2bBlocks D.length - 1))).length = 128 := by simp; omega
    refine ⟨?_, ?_, ?_⟩
    · rw [hn, ← hN, List.take_left]
      conv_rhs => rw [← List.take_append_drop (128 * (blake2bBlocks D.length - 1)) D]
      rw [foldBlocks_append _ (by omega) _ _ _ (by simp; omega), ← hc,
        foldBlocks_single _ (by omega) _ _ hlen, ← hbuf]
      simp [blake2bAbsorb, blake2bFlush, hfull, blake2bCompress, zeros]
    · rw [hn, ← hN, List.drop_left]
      simp only [blake2bAbsorb, blake2bFlush, if_pos hfull]
      rw [take_setIfInBounds_succ _ _ _ (by omega)]
      rfl
    · rw [hn, ← hN]
      simp [blake2bAbsorb, blake2bFlush, if_pos hfull]
  · have hn : blake2bBlocks (D ++ [b]).length = blake2bBlocks D.length := by
      simp only [List.length_append, List.length_singleton]
      unfold blake2bBlocks at *
      omega
    refine ⟨?_, ?_, ?_⟩
    · rw [hn, List.take_append_of_le_length b1, ← hc]
      simp [blake2bAbsorb, blake2bFlush, hfull]
    · rw [hn, List.drop_append_of_le_length b1, ← hh]
      simp only [blake2bAbsorb, blake2bFlush, if_neg hfull]
      exact take_setIfInBounds_succ _ _ _ (by omega)
    · rw [hn]
      simp only [blake2bAbsorb, blake2bFlush, if_neg hfull, List.length_append, List.length_singleton]
      omega

theorem blake2bInit_absorbed (outlen : Nat) (K : List Byte) (hK : K.length ≤ 128) (r : Blake2bRegs) :
    B2bAbsorbed { h := blake2bParam outlen K.length, t := 0 } (blake2bKeyBlock K) (blake2bInit outlen K r) := by
  have hl := length_blake2bKeyBlock K hK
  by_cases h : K.length > 0
  · have hne : K ≠ [] := by intro e; simp [e] at h
    rw [if_neg hne] at hl
    have ht := toList_toBuffer 128 (blake2bKeyBlock K) (by omega)
    refine ⟨?_, ?_, ?_⟩
    · simp [blake2bInit, h, hl, blake2bBlocks, foldBlocks]
    · simp only [blake2bInit, if_pos h, ht, hl]
      simp [blake2bBlocks, zeros, hl]
    · simp [blake2bInit, h, hl, blake2bBlocks]
  · have he : K = [] := by cases K <;> simp_all
    subst he
    refine ⟨?_, ?_, ?_⟩ <;> simp [blake2bInit, blake2bKeyBlock, blake2bBlocks, foldBlocks]

/-- The spec lemma of BLAKE2b's streaming (R399): EngineInit, then EngineAbsorb on each byte of M. -/
theorem blake2b_stream (outlen : Nat) (K : List Byte) (hK : K.length ≤ 128) (M : List Byte) (r : Blake2bRegs) :
    B2bAbsorbed { h := blake2bParam outlen K.length, t := 0 } (blake2bKeyBlock K ++ M)
      (M.foldl blake2bAbsorb (blake2bInit outlen K r)) := by
  induction M using List.reverseRecOn with
  | nil => simpa using blake2bInit_absorbed outlen K hK r
  | append_singleton M b ih =>
    rw [List.foldl_append, ← List.append_assoc]
    exact blake2bAbsorb_absorbed _ _ b _ ih

/-- The counter after whole blocks is the number of their bytes. -/
theorem foldBlocks_compress_t (c : Blake2bChain) (D : List Byte) (hD : D.length % 128 = 0) :
    (foldBlocks 128 (blake2bCompress false) c D).t = c.t + BitVec.ofNat 128 D.length := by
  have key : ∀ n, n ≤ D.length / 128 →
      ((List.range n).foldl (fun h j => blake2bCompress false h (slice D (128 * j) (128 * j + 128))) c).t =
        c.t + BitVec.ofNat 128 (128 * n) := by
    intro n hn
    induction n with
    | zero => simp
    | succ n ih =>
      have hl : (slice D (128 * n) (128 * n + 128)).length = 128 := by rw [length_slice]; omega
      rw [List.range_succ, List.foldl_append, List.foldl_cons, List.foldl_nil]
      have hstep (d : Blake2bChain) (B : List Byte) (hB : B.length = 128) :
          (blake2bCompress false d B).t = d.t + BitVec.ofNat 128 128 := by simp only [blake2bCompress, hB]
      rw [hstep _ _ hl, ih (by omega), Nat.mul_succ, BitVec.ofNat_add, BitVec.add_assoc]
  have := key (D.length / 128) (Nat.le_refl _)
  rw [foldBlocks, this]
  congr 2
  omega

end Sys2Proof.Machine
end

