-- ==== Sys2Proof/Laws/State.lean ====
section
/-! SUPPORT. One lemma per field per update of State: what each unconditional operation of Machine/Ops.lean leaves in each
field, true by rfl. -/

namespace Sys2Proof.Machine

@[simp] theorem respond_phase (v : Word) (s : State) : (respond v s).phase = s.phase := rfl
@[simp] theorem respond_err (v : Word) (s : State) : (respond v s).err = s.err := rfl
@[simp] theorem respond_alg (v : Word) (s : State) : (respond v s).alg = s.alg := rfl
@[simp] theorem respond_dlen (v : Word) (s : State) : (respond v s).dlen = s.dlen := rfl
@[simp] theorem respond_keyovf (v : Word) (s : State) : (respond v s).keyovf = s.keyovf := rfl
@[simp] theorem respond_keylen (v : Word) (s : State) : (respond v s).keylen = s.keylen := rfl
@[simp] theorem respond_key (v : Word) (s : State) : (respond v s).key = s.key := rfl
@[simp] theorem respond_mlen (v : Word) (s : State) : (respond v s).mlen = s.mlen := rfl
@[simp] theorem respond_seed (v : Word) (s : State) : (respond v s).seed = s.seed := rfl
@[simp] theorem respond_outlen (v : Word) (s : State) : (respond v s).outlen = s.outlen := rfl
@[simp] theorem respond_cseed (v : Word) (s : State) : (respond v s).cseed = s.cseed := rfl
@[simp] theorem respond_ckey (v : Word) (s : State) : (respond v s).ckey = s.ckey := rfl
@[simp] theorem respond_msg (v : Word) (s : State) : (respond v s).msg = s.msg := rfl
@[simp] theorem respond_digest (v : Word) (s : State) : (respond v s).digest = s.digest := rfl
@[simp] theorem respond_dp (v : Word) (s : State) : (respond v s).dp = s.dp := rfl
@[simp] theorem respond_pending (v : Word) (s : State) : (respond v s).pending = s.pending := rfl
@[simp] theorem respond_response (v : Word) (s : State) : (respond v s).response = .rdata v := rfl
@[simp] theorem respond_freeCount (v : Word) (s : State) : (respond v s).freeCount = s.freeCount := rfl

@[simp] theorem clearErr_phase (s : State) : (clearErr s).phase = s.phase := rfl
@[simp] theorem clearErr_err (s : State) : (clearErr s).err = .none := rfl
@[simp] theorem clearErr_alg (s : State) : (clearErr s).alg = s.alg := rfl
@[simp] theorem clearErr_dlen (s : State) : (clearErr s).dlen = s.dlen := rfl
@[simp] theorem clearErr_keyovf (s : State) : (clearErr s).keyovf = s.keyovf := rfl
@[simp] theorem clearErr_keylen (s : State) : (clearErr s).keylen = s.keylen := rfl
@[simp] theorem clearErr_key (s : State) : (clearErr s).key = s.key := rfl
@[simp] theorem clearErr_mlen (s : State) : (clearErr s).mlen = s.mlen := rfl
@[simp] theorem clearErr_seed (s : State) : (clearErr s).seed = s.seed := rfl
@[simp] theorem clearErr_outlen (s : State) : (clearErr s).outlen = s.outlen := rfl
@[simp] theorem clearErr_cseed (s : State) : (clearErr s).cseed = s.cseed := rfl
@[simp] theorem clearErr_ckey (s : State) : (clearErr s).ckey = s.ckey := rfl
@[simp] theorem clearErr_msg (s : State) : (clearErr s).msg = s.msg := rfl
@[simp] theorem clearErr_digest (s : State) : (clearErr s).digest = s.digest := rfl
@[simp] theorem clearErr_dp (s : State) : (clearErr s).dp = s.dp := rfl
@[simp] theorem clearErr_pending (s : State) : (clearErr s).pending = s.pending := rfl
@[simp] theorem clearErr_response (s : State) : (clearErr s).response = s.response := rfl
@[simp] theorem clearErr_freeCount (s : State) : (clearErr s).freeCount = s.freeCount := rfl

@[simp] theorem takeEvent_phase (rest : List HostEvent) (s : State) : (takeEvent rest s).phase = s.phase := rfl
@[simp] theorem takeEvent_err (rest : List HostEvent) (s : State) : (takeEvent rest s).err = s.err := rfl
@[simp] theorem takeEvent_alg (rest : List HostEvent) (s : State) : (takeEvent rest s).alg = s.alg := rfl
@[simp] theorem takeEvent_dlen (rest : List HostEvent) (s : State) : (takeEvent rest s).dlen = s.dlen := rfl
@[simp] theorem takeEvent_keyovf (rest : List HostEvent) (s : State) : (takeEvent rest s).keyovf = s.keyovf := rfl
@[simp] theorem takeEvent_keylen (rest : List HostEvent) (s : State) : (takeEvent rest s).keylen = s.keylen := rfl
@[simp] theorem takeEvent_key (rest : List HostEvent) (s : State) : (takeEvent rest s).key = s.key := rfl
@[simp] theorem takeEvent_mlen (rest : List HostEvent) (s : State) : (takeEvent rest s).mlen = s.mlen := rfl
@[simp] theorem takeEvent_seed (rest : List HostEvent) (s : State) : (takeEvent rest s).seed = s.seed := rfl
@[simp] theorem takeEvent_outlen (rest : List HostEvent) (s : State) : (takeEvent rest s).outlen = s.outlen := rfl
@[simp] theorem takeEvent_cseed (rest : List HostEvent) (s : State) : (takeEvent rest s).cseed = s.cseed := rfl
@[simp] theorem takeEvent_ckey (rest : List HostEvent) (s : State) : (takeEvent rest s).ckey = s.ckey := rfl
@[simp] theorem takeEvent_msg (rest : List HostEvent) (s : State) : (takeEvent rest s).msg = s.msg := rfl
@[simp] theorem takeEvent_digest (rest : List HostEvent) (s : State) : (takeEvent rest s).digest = s.digest := rfl
@[simp] theorem takeEvent_dp (rest : List HostEvent) (s : State) : (takeEvent rest s).dp = s.dp := rfl
@[simp] theorem takeEvent_pending (rest : List HostEvent) (s : State) : (takeEvent rest s).pending = rest := rfl
@[simp] theorem takeEvent_response (rest : List HostEvent) (s : State) : (takeEvent rest s).response = .nothing := rfl
@[simp] theorem takeEvent_freeCount (rest : List HostEvent) (s : State) : (takeEvent rest s).freeCount = s.freeCount := rfl

@[simp] theorem clearKey_phase (s : State) : (clearKey s).phase = s.phase := rfl
@[simp] theorem clearKey_err (s : State) : (clearKey s).err = s.err := rfl
@[simp] theorem clearKey_alg (s : State) : (clearKey s).alg = s.alg := rfl
@[simp] theorem clearKey_dlen (s : State) : (clearKey s).dlen = s.dlen := rfl
@[simp] theorem clearKey_keyovf (s : State) : (clearKey s).keyovf = false := rfl
@[simp] theorem clearKey_keylen (s : State) : (clearKey s).keylen = 0 := rfl
@[simp] theorem clearKey_key (s : State) : (clearKey s).key = Vector.replicate 128 0 := rfl
@[simp] theorem clearKey_mlen (s : State) : (clearKey s).mlen = s.mlen := rfl
@[simp] theorem clearKey_seed (s : State) : (clearKey s).seed = s.seed := rfl
@[simp] theorem clearKey_outlen (s : State) : (clearKey s).outlen = s.outlen := rfl
@[simp] theorem clearKey_cseed (s : State) : (clearKey s).cseed = s.cseed := rfl
@[simp] theorem clearKey_ckey (s : State) : (clearKey s).ckey = s.ckey := rfl
@[simp] theorem clearKey_msg (s : State) : (clearKey s).msg = s.msg := rfl
@[simp] theorem clearKey_digest (s : State) : (clearKey s).digest = s.digest := rfl
@[simp] theorem clearKey_dp (s : State) : (clearKey s).dp = s.dp := rfl
@[simp] theorem clearKey_pending (s : State) : (clearKey s).pending = s.pending := rfl
@[simp] theorem clearKey_response (s : State) : (clearKey s).response = s.response := rfl
@[simp] theorem clearKey_freeCount (s : State) : (clearKey s).freeCount = s.freeCount := rfl

@[simp] theorem startComputation_phase (alg : Alg) (ol : BitVec 7) (s : State) : (startComputation alg ol s).phase = .active := rfl
@[simp] theorem startComputation_err (alg : Alg) (ol : BitVec 7) (s : State) : (startComputation alg ol s).err = .none := rfl
@[simp] theorem startComputation_alg (alg : Alg) (ol : BitVec 7) (s : State) : (startComputation alg ol s).alg = alg := rfl
@[simp] theorem startComputation_dlen (alg : Alg) (ol : BitVec 7) (s : State) : (startComputation alg ol s).dlen = 0 := rfl
@[simp] theorem startComputation_keyovf (alg : Alg) (ol : BitVec 7) (s : State) : (startComputation alg ol s).keyovf = s.keyovf := rfl
@[simp] theorem startComputation_keylen (alg : Alg) (ol : BitVec 7) (s : State) : (startComputation alg ol s).keylen = s.keylen := rfl
@[simp] theorem startComputation_key (alg : Alg) (ol : BitVec 7) (s : State) : (startComputation alg ol s).key = s.key := rfl
@[simp] theorem startComputation_mlen (alg : Alg) (ol : BitVec 7) (s : State) : (startComputation alg ol s).mlen = 0 := rfl
@[simp] theorem startComputation_seed (alg : Alg) (ol : BitVec 7) (s : State) : (startComputation alg ol s).seed = s.seed := rfl
@[simp] theorem startComputation_outlen (alg : Alg) (ol : BitVec 7) (s : State) : (startComputation alg ol s).outlen = initOutlen alg ol := rfl
@[simp] theorem startComputation_cseed (alg : Alg) (ol : BitVec 7) (s : State) : (startComputation alg ol s).cseed = s.seed := rfl
@[simp] theorem startComputation_ckey (alg : Alg) (ol : BitVec 7) (s : State) : (startComputation alg ol s).ckey = initKey alg s := rfl
@[simp] theorem startComputation_msg (alg : Alg) (ol : BitVec 7) (s : State) : (startComputation alg ol s).msg = [] := rfl
@[simp] theorem startComputation_digest (alg : Alg) (ol : BitVec 7) (s : State) : (startComputation alg ol s).digest = Vector.replicate 64 0 := rfl
@[simp] theorem startComputation_dp (alg : Alg) (ol : BitVec 7) (s : State) : (startComputation alg ol s).dp = engineInit alg (initOutlen alg ol).toNat s.seed (initKey alg s) s.dp := rfl
@[simp] theorem startComputation_pending (alg : Alg) (ol : BitVec 7) (s : State) : (startComputation alg ol s).pending = s.pending := rfl
@[simp] theorem startComputation_response (alg : Alg) (ol : BitVec 7) (s : State) : (startComputation alg ol s).response = s.response := rfl
@[simp] theorem startComputation_freeCount (alg : Alg) (ol : BitVec 7) (s : State) : (startComputation alg ol s).freeCount = s.freeCount := rfl

@[simp] theorem feed_phase (S : List Byte) (s : State) : (feed S s).phase = s.phase := rfl
@[simp] theorem feed_err (S : List Byte) (s : State) : (feed S s).err = s.err := rfl
@[simp] theorem feed_alg (S : List Byte) (s : State) : (feed S s).alg = s.alg := rfl
@[simp] theorem feed_dlen (S : List Byte) (s : State) : (feed S s).dlen = s.dlen := rfl
@[simp] theorem feed_keyovf (S : List Byte) (s : State) : (feed S s).keyovf = s.keyovf := rfl
@[simp] theorem feed_keylen (S : List Byte) (s : State) : (feed S s).keylen = s.keylen := rfl
@[simp] theorem feed_key (S : List Byte) (s : State) : (feed S s).key = s.key := rfl
@[simp] theorem feed_mlen (S : List Byte) (s : State) : (feed S s).mlen = s.mlen + BitVec.ofNat 64 S.length := rfl
@[simp] theorem feed_seed (S : List Byte) (s : State) : (feed S s).seed = s.seed := rfl
@[simp] theorem feed_outlen (S : List Byte) (s : State) : (feed S s).outlen = s.outlen := rfl
@[simp] theorem feed_cseed (S : List Byte) (s : State) : (feed S s).cseed = s.cseed := rfl
@[simp] theorem feed_ckey (S : List Byte) (s : State) : (feed S s).ckey = s.ckey := rfl
@[simp] theorem feed_msg (S : List Byte) (s : State) : (feed S s).msg = s.msg ++ S := rfl
@[simp] theorem feed_digest (S : List Byte) (s : State) : (feed S s).digest = s.digest := rfl
@[simp] theorem feed_dp (S : List Byte) (s : State) : (feed S s).dp = S.foldl (engineAbsorb s.alg) s.dp := rfl
@[simp] theorem feed_pending (S : List Byte) (s : State) : (feed S s).pending = s.pending := rfl
@[simp] theorem feed_response (S : List Byte) (s : State) : (feed S s).response = s.response := rfl
@[simp] theorem feed_freeCount (S : List Byte) (s : State) : (feed S s).freeCount = s.freeCount := rfl

@[simp] theorem loadDigest_phase (D : List Byte) (s : State) : (loadDigest D s).phase = .done := rfl
@[simp] theorem loadDigest_err (D : List Byte) (s : State) : (loadDigest D s).err = s.err := rfl
@[simp] theorem loadDigest_alg (D : List Byte) (s : State) : (loadDigest D s).alg = s.alg := rfl
@[simp] theorem loadDigest_dlen (D : List Byte) (s : State) : (loadDigest D s).dlen = s.outlen := rfl
@[simp] theorem loadDigest_keyovf (D : List Byte) (s : State) : (loadDigest D s).keyovf = s.keyovf := rfl
@[simp] theorem loadDigest_keylen (D : List Byte) (s : State) : (loadDigest D s).keylen = s.keylen := rfl
@[simp] theorem loadDigest_key (D : List Byte) (s : State) : (loadDigest D s).key = s.key := rfl
@[simp] theorem loadDigest_mlen (D : List Byte) (s : State) : (loadDigest D s).mlen = s.mlen := rfl
@[simp] theorem loadDigest_seed (D : List Byte) (s : State) : (loadDigest D s).seed = s.seed := rfl
@[simp] theorem loadDigest_outlen (D : List Byte) (s : State) : (loadDigest D s).outlen = s.outlen := rfl
@[simp] theorem loadDigest_cseed (D : List Byte) (s : State) : (loadDigest D s).cseed = s.cseed := rfl
@[simp] theorem loadDigest_ckey (D : List Byte) (s : State) : (loadDigest D s).ckey = s.ckey := rfl
@[simp] theorem loadDigest_msg (D : List Byte) (s : State) : (loadDigest D s).msg = s.msg := rfl
@[simp] theorem loadDigest_digest (D : List Byte) (s : State) : (loadDigest D s).digest = toBuffer 64 D := rfl
@[simp] theorem loadDigest_dp (D : List Byte) (s : State) : (loadDigest D s).dp = s.dp := rfl
@[simp] theorem loadDigest_pending (D : List Byte) (s : State) : (loadDigest D s).pending = s.pending := rfl
@[simp] theorem loadDigest_response (D : List Byte) (s : State) : (loadDigest D s).response = s.response := rfl
@[simp] theorem loadDigest_freeCount (D : List Byte) (s : State) : (loadDigest D s).freeCount = s.freeCount := rfl

@[simp] theorem resetEvent_phase (rest : List HostEvent) (s : State) : (resetEvent rest s).phase = State.reset.phase := rfl
@[simp] theorem resetEvent_err (rest : List HostEvent) (s : State) : (resetEvent rest s).err = State.reset.err := rfl
@[simp] theorem resetEvent_alg (rest : List HostEvent) (s : State) : (resetEvent rest s).alg = State.reset.alg := rfl
@[simp] theorem resetEvent_dlen (rest : List HostEvent) (s : State) : (resetEvent rest s).dlen = State.reset.dlen := rfl
@[simp] theorem resetEvent_keyovf (rest : List HostEvent) (s : State) : (resetEvent rest s).keyovf = State.reset.keyovf := rfl
@[simp] theorem resetEvent_keylen (rest : List HostEvent) (s : State) : (resetEvent rest s).keylen = State.reset.keylen := rfl
@[simp] theorem resetEvent_key (rest : List HostEvent) (s : State) : (resetEvent rest s).key = State.reset.key := rfl
@[simp] theorem resetEvent_mlen (rest : List HostEvent) (s : State) : (resetEvent rest s).mlen = State.reset.mlen := rfl
@[simp] theorem resetEvent_seed (rest : List HostEvent) (s : State) : (resetEvent rest s).seed = State.reset.seed := rfl
@[simp] theorem resetEvent_outlen (rest : List HostEvent) (s : State) : (resetEvent rest s).outlen = State.reset.outlen := rfl
@[simp] theorem resetEvent_cseed (rest : List HostEvent) (s : State) : (resetEvent rest s).cseed = State.reset.cseed := rfl
@[simp] theorem resetEvent_ckey (rest : List HostEvent) (s : State) : (resetEvent rest s).ckey = State.reset.ckey := rfl
@[simp] theorem resetEvent_msg (rest : List HostEvent) (s : State) : (resetEvent rest s).msg = State.reset.msg := rfl
@[simp] theorem resetEvent_digest (rest : List HostEvent) (s : State) : (resetEvent rest s).digest = State.reset.digest := rfl
@[simp] theorem resetEvent_dp (rest : List HostEvent) (s : State) : (resetEvent rest s).dp = State.reset.dp := rfl
@[simp] theorem resetEvent_pending (rest : List HostEvent) (s : State) : (resetEvent rest s).pending = rest := rfl
@[simp] theorem resetEvent_response (rest : List HostEvent) (s : State) : (resetEvent rest s).response = State.reset.response := rfl
@[simp] theorem resetEvent_freeCount (rest : List HostEvent) (s : State) : (resetEvent rest s).freeCount = s.freeCount := rfl

@[simp] theorem abandonEvent_phase (ht : HT) (rest : List HostEvent) (s : State) : (abandonEvent ht rest s).phase = State.reset.phase := rfl
@[simp] theorem abandonEvent_err (ht : HT) (rest : List HostEvent) (s : State) : (abandonEvent ht rest s).err = State.reset.err := rfl
@[simp] theorem abandonEvent_alg (ht : HT) (rest : List HostEvent) (s : State) : (abandonEvent ht rest s).alg = State.reset.alg := rfl
@[simp] theorem abandonEvent_dlen (ht : HT) (rest : List HostEvent) (s : State) : (abandonEvent ht rest s).dlen = State.reset.dlen := rfl
@[simp] theorem abandonEvent_keyovf (ht : HT) (rest : List HostEvent) (s : State) : (abandonEvent ht rest s).keyovf = State.reset.keyovf := rfl
@[simp] theorem abandonEvent_keylen (ht : HT) (rest : List HostEvent) (s : State) : (abandonEvent ht rest s).keylen = State.reset.keylen := rfl
@[simp] theorem abandonEvent_key (ht : HT) (rest : List HostEvent) (s : State) : (abandonEvent ht rest s).key = State.reset.key := rfl
@[simp] theorem abandonEvent_mlen (ht : HT) (rest : List HostEvent) (s : State) : (abandonEvent ht rest s).mlen = State.reset.mlen := rfl
@[simp] theorem abandonEvent_seed (ht : HT) (rest : List HostEvent) (s : State) : (abandonEvent ht rest s).seed = State.reset.seed := rfl
@[simp] theorem abandonEvent_outlen (ht : HT) (rest : List HostEvent) (s : State) : (abandonEvent ht rest s).outlen = State.reset.outlen := rfl
@[simp] theorem abandonEvent_cseed (ht : HT) (rest : List HostEvent) (s : State) : (abandonEvent ht rest s).cseed = State.reset.cseed := rfl
@[simp] theorem abandonEvent_ckey (ht : HT) (rest : List HostEvent) (s : State) : (abandonEvent ht rest s).ckey = State.reset.ckey := rfl
@[simp] theorem abandonEvent_msg (ht : HT) (rest : List HostEvent) (s : State) : (abandonEvent ht rest s).msg = State.reset.msg := rfl
@[simp] theorem abandonEvent_digest (ht : HT) (rest : List HostEvent) (s : State) : (abandonEvent ht rest s).digest = State.reset.digest := rfl
@[simp] theorem abandonEvent_dp (ht : HT) (rest : List HostEvent) (s : State) : (abandonEvent ht rest s).dp = State.reset.dp := rfl
@[simp] theorem abandonEvent_pending (ht : HT) (rest : List HostEvent) (s : State) : (abandonEvent ht rest s).pending = rest := rfl
@[simp] theorem abandonEvent_response (ht : HT) (rest : List HostEvent) (s : State) : (abandonEvent ht rest s).response = .cutShort (if htWe ht then none else some (Config.freeWord s.freeCount)) := rfl
@[simp] theorem abandonEvent_freeCount (ht : HT) (rest : List HostEvent) (s : State) : (abandonEvent ht rest s).freeCount = s.freeCount + 1 := rfl

end Sys2Proof.Machine
end

