-- ==== Sys2Proof/Laws/Ops.lean ====
section
/-! SUPPORT. One spec lemma for each conditional operation of Machine/Ops.lean: everything it can do, said once; and the
fields each leaves alone. -/

namespace Sys2Proof.Machine

/-- raise writes ERR if it was 0, and otherwise does nothing. -/
theorem raise_cases (e : Err) (s : State) :
    (s.err = .none ∧ raise e s = { s with err := e }) ∨ (s.err ≠ .none ∧ raise e s = s) := by
  unfold raise
  split
  · exact .inl ⟨‹_›, rfl⟩
  · exact .inr ⟨‹_›, rfl⟩

theorem raise_clear (e : Err) (s : State) (h : s.err = .none) : raise e s = { s with err := e } := if_pos h

theorem raise_sticky (e : Err) (s : State) (h : s.err ≠ .none) : raise e s = s := if_neg h

@[simp] theorem raise_phase (e : Err) (s : State) : (raise e s).phase = s.phase := by unfold raise; split <;> rfl
@[simp] theorem raise_alg (e : Err) (s : State) : (raise e s).alg = s.alg := by unfold raise; split <;> rfl
@[simp] theorem raise_dlen (e : Err) (s : State) : (raise e s).dlen = s.dlen := by unfold raise; split <;> rfl
@[simp] theorem raise_keyovf (e : Err) (s : State) : (raise e s).keyovf = s.keyovf := by unfold raise; split <;> rfl
@[simp] theorem raise_keylen (e : Err) (s : State) : (raise e s).keylen = s.keylen := by unfold raise; split <;> rfl
@[simp] theorem raise_key (e : Err) (s : State) : (raise e s).key = s.key := by unfold raise; split <;> rfl
@[simp] theorem raise_mlen (e : Err) (s : State) : (raise e s).mlen = s.mlen := by unfold raise; split <;> rfl
@[simp] theorem raise_seed (e : Err) (s : State) : (raise e s).seed = s.seed := by unfold raise; split <;> rfl
@[simp] theorem raise_outlen (e : Err) (s : State) : (raise e s).outlen = s.outlen := by unfold raise; split <;> rfl
@[simp] theorem raise_cseed (e : Err) (s : State) : (raise e s).cseed = s.cseed := by unfold raise; split <;> rfl
@[simp] theorem raise_ckey (e : Err) (s : State) : (raise e s).ckey = s.ckey := by unfold raise; split <;> rfl
@[simp] theorem raise_msg (e : Err) (s : State) : (raise e s).msg = s.msg := by unfold raise; split <;> rfl
@[simp] theorem raise_digest (e : Err) (s : State) : (raise e s).digest = s.digest := by unfold raise; split <;> rfl
@[simp] theorem raise_dp (e : Err) (s : State) : (raise e s).dp = s.dp := by unfold raise; split <;> rfl
@[simp] theorem raise_pending (e : Err) (s : State) : (raise e s).pending = s.pending := by unfold raise; split <;> rfl
@[simp] theorem raise_response (e : Err) (s : State) : (raise e s).response = s.response := by unfold raise; split <;> rfl
@[simp] theorem raise_freeCount (e : Err) (s : State) : (raise e s).freeCount = s.freeCount := by unfold raise; split <;> rfl

@[simp] theorem busError_phase (ht : HT) (s : State) : (busError ht s).phase = s.phase := by
  simp only [busError, raise_phase]; split <;> rfl
@[simp] theorem busError_alg (ht : HT) (s : State) : (busError ht s).alg = s.alg := by
  simp only [busError, raise_alg]; split <;> rfl
@[simp] theorem busError_dlen (ht : HT) (s : State) : (busError ht s).dlen = s.dlen := by
  simp only [busError, raise_dlen]; split <;> rfl
@[simp] theorem busError_keyovf (ht : HT) (s : State) : (busError ht s).keyovf = s.keyovf := by
  simp only [busError, raise_keyovf]; split <;> rfl
@[simp] theorem busError_keylen (ht : HT) (s : State) : (busError ht s).keylen = s.keylen := by
  simp only [busError, raise_keylen]; split <;> rfl
@[simp] theorem busError_key (ht : HT) (s : State) : (busError ht s).key = s.key := by
  simp only [busError, raise_key]; split <;> rfl
@[simp] theorem busError_mlen (ht : HT) (s : State) : (busError ht s).mlen = s.mlen := by
  simp only [busError, raise_mlen]; split <;> rfl
@[simp] theorem busError_seed (ht : HT) (s : State) : (busError ht s).seed = s.seed := by
  simp only [busError, raise_seed]; split <;> rfl
@[simp] theorem busError_outlen (ht : HT) (s : State) : (busError ht s).outlen = s.outlen := by
  simp only [busError, raise_outlen]; split <;> rfl
@[simp] theorem busError_cseed (ht : HT) (s : State) : (busError ht s).cseed = s.cseed := by
  simp only [busError, raise_cseed]; split <;> rfl
@[simp] theorem busError_ckey (ht : HT) (s : State) : (busError ht s).ckey = s.ckey := by
  simp only [busError, raise_ckey]; split <;> rfl
@[simp] theorem busError_msg (ht : HT) (s : State) : (busError ht s).msg = s.msg := by
  simp only [busError, raise_msg]; split <;> rfl
@[simp] theorem busError_digest (ht : HT) (s : State) : (busError ht s).digest = s.digest := by
  simp only [busError, raise_digest]; split <;> rfl
@[simp] theorem busError_dp (ht : HT) (s : State) : (busError ht s).dp = s.dp := by
  simp only [busError, raise_dp]; split <;> rfl
@[simp] theorem busError_pending (ht : HT) (s : State) : (busError ht s).pending = s.pending := by
  simp only [busError, raise_pending]; split <;> rfl
@[simp] theorem busError_freeCount (ht : HT) (s : State) : (busError ht s).freeCount = s.freeCount := by
  simp only [busError, raise_freeCount]; split <;> rfl

/-- LDKEY appends while there is room, and otherwise sets KEYOVF. -/
theorem appendKey_cases (b : Byte) (s : State) :
    (s.keylen.toNat < 128 ∧
      appendKey b s = { s with key := s.key.setIfInBounds s.keylen.toNat b, keylen := s.keylen + 1 }) ∨
    (128 ≤ s.keylen.toNat ∧ appendKey b s = { s with keyovf := true }) := by
  unfold appendKey
  split
  · exact .inl ⟨‹_›, rfl⟩
  · exact .inr ⟨by omega, rfl⟩

@[simp] theorem appendKey_phase (b : Byte) (s : State) : (appendKey b s).phase = s.phase := by
  unfold appendKey; split <;> rfl
@[simp] theorem appendKey_err (b : Byte) (s : State) : (appendKey b s).err = s.err := by
  unfold appendKey; split <;> rfl
@[simp] theorem appendKey_alg (b : Byte) (s : State) : (appendKey b s).alg = s.alg := by
  unfold appendKey; split <;> rfl
@[simp] theorem appendKey_dlen (b : Byte) (s : State) : (appendKey b s).dlen = s.dlen := by
  unfold appendKey; split <;> rfl
@[simp] theorem appendKey_mlen (b : Byte) (s : State) : (appendKey b s).mlen = s.mlen := by
  unfold appendKey; split <;> rfl
@[simp] theorem appendKey_seed (b : Byte) (s : State) : (appendKey b s).seed = s.seed := by
  unfold appendKey; split <;> rfl
@[simp] theorem appendKey_outlen (b : Byte) (s : State) : (appendKey b s).outlen = s.outlen := by
  unfold appendKey; split <;> rfl
@[simp] theorem appendKey_cseed (b : Byte) (s : State) : (appendKey b s).cseed = s.cseed := by
  unfold appendKey; split <;> rfl
@[simp] theorem appendKey_ckey (b : Byte) (s : State) : (appendKey b s).ckey = s.ckey := by
  unfold appendKey; split <;> rfl
@[simp] theorem appendKey_msg (b : Byte) (s : State) : (appendKey b s).msg = s.msg := by
  unfold appendKey; split <;> rfl
@[simp] theorem appendKey_digest (b : Byte) (s : State) : (appendKey b s).digest = s.digest := by
  unfold appendKey; split <;> rfl
@[simp] theorem appendKey_dp (b : Byte) (s : State) : (appendKey b s).dp = s.dp := by
  unfold appendKey; split <;> rfl
@[simp] theorem appendKey_pending (b : Byte) (s : State) : (appendKey b s).pending = s.pending := by
  unfold appendKey; split <;> rfl
@[simp] theorem appendKey_response (b : Byte) (s : State) : (appendKey b s).response = s.response := by
  unfold appendKey; split <;> rfl
@[simp] theorem appendKey_freeCount (b : Byte) (s : State) : (appendKey b s).freeCount = s.freeCount := by
  unfold appendKey; split <;> rfl

/-- AbsorbBytes discards, raises E_SEQ, raises E_LEN, or feeds the bytes to the running computation. -/
theorem absorbBytes_cases (S : List Byte) (s : State) :
    (s.err ≠ .none ∧ absorbBytes S s = s) ∨
    (s.err = .none ∧ s.phase ≠ .active ∧ absorbBytes S s = { s with err := .seq }) ∨
    (s.err = .none ∧ s.phase = .active ∧ 2 ^ 64 - 1 < s.mlen.toNat + S.length ∧
      absorbBytes S s = { s with err := .len }) ∨
    (s.err = .none ∧ s.phase = .active ∧ s.mlen.toNat + S.length ≤ 2 ^ 64 - 1 ∧ absorbBytes S s = feed S s) := by
  unfold absorbBytes
  split
  · exact .inl ⟨‹_›, rfl⟩
  · next he =>
    have he : s.err = .none := not_not.mp he
    split
    · exact .inr (.inl ⟨he, ‹_›, raise_clear _ _ he⟩)
    · next hp =>
      have hp : s.phase = .active := not_not.mp hp
      split
      · exact .inr (.inr (.inl ⟨he, hp, ‹_›, raise_clear _ _ he⟩))
      · exact .inr (.inr (.inr ⟨he, hp, by omega, rfl⟩))

theorem absorbBytes_feed (S : List Byte) (s : State) (he : s.err = .none) (hp : s.phase = .active)
    (hl : s.mlen.toNat + S.length ≤ 2 ^ 64 - 1) : absorbBytes S s = feed S s := by
  unfold absorbBytes
  rw [if_neg (by simp [he]), if_neg (by simp [hp]), if_neg (by omega)]

/-- FINAL discards, raises E_SEQ, or loads the digest. -/
theorem finalise_cases (s : State) :
    (s.err ≠ .none ∧ finalise s = s) ∨
    (s.err = .none ∧ s.phase ≠ .active ∧ finalise s = { s with err := .seq }) ∨
    (s.err = .none ∧ s.phase = .active ∧
      finalise s = loadDigest (digestOf s.alg s.outlen.toNat s.cseed s.ckey s.msg) s) := by
  unfold finalise
  split
  · exact .inl ⟨‹_›, rfl⟩
  · next he =>
    have he : s.err = .none := not_not.mp he
    split
    · exact .inr (.inl ⟨he, ‹_›, raise_clear _ _ he⟩)
    · next hp => exact .inr (.inr ⟨he, not_not.mp hp, rfl⟩)

/-- The byte counter of AbsorbBytes does not wrap where the bytes are fed. -/
theorem feed_mlen_toNat (S : List Byte) (s : State) (h : s.mlen.toNat + S.length ≤ 2 ^ 64 - 1) :
    (feed S s).mlen.toNat = s.mlen.toNat + S.length := by
  rw [feed_mlen, BitVec.toNat_add, BitVec.toNat_ofNat, Nat.mod_eq_of_lt (a := S.length) (by omega),
    Nat.mod_eq_of_lt (by omega)]

end Sys2Proof.Machine
end

