-- ==== Sys2Proof/Laws/PerInstr.lean ====
section
/-! SUPPORT. Statements made instruction by instruction. EncodeKind: the direction (WE) and the word slot (WIDX) of every
instruction's record are those of R134 (spec/30_encoding.md). -/

namespace Sys2Proof.Laws

/-- The direction and the slot R134 gives each instruction. -/
def directionAndSlot : Instr → Bool × BitVec 5
  | .nop => (true, 0#5)
  | .init _ _ => (true, 0#5)
  | .ldseed _ _ => (true, 0#5)
  | .ldkey _ => (true, 0#5)
  | .clrkey => (true, 0#5)
  | .absorb1 _ => (true, 0#5)
  | .absorb2 _ _ => (true, 0#5)
  | .absorb3 _ _ _ => (true, 0#5)
  | .final => (true, 0#5)
  | .wrDin _ => (true, 2#5)
  | .rdStatus => (false, 1#5)
  | .rdMlen0 => (false, 3#5)
  | .rdMlen1 => (false, 4#5)
  | .rdSeed0 => (false, 5#5)
  | .rdSeed1 => (false, 6#5)
  | .rdDout i => (false, 16#5 + i.setWidth 5)

/-- The record of the instruction has the direction and the slot of R134. -/
def EncodeKind.Statement (i : Instr) : Prop :=
  htWe (encode i) = (directionAndSlot i).1 ∧ htWidx (encode i) = (directionAndSlot i).2

theorem EncodeKind.nop : EncodeKind.Statement .nop := ⟨htWe_mkHT .., htWidx_mkHT ..⟩
theorem EncodeKind.init (alg : Alg) (ol : BitVec 7) : EncodeKind.Statement (.init alg ol) := ⟨htWe_mkHT .., htWidx_mkHT ..⟩
theorem EncodeKind.ldseed (k : BitVec 2) (imm16 : BitVec 16) : EncodeKind.Statement (.ldseed k imm16) := ⟨htWe_mkHT .., htWidx_mkHT ..⟩
theorem EncodeKind.ldkey (b0 : Byte) : EncodeKind.Statement (.ldkey b0) := ⟨htWe_mkHT .., htWidx_mkHT ..⟩
theorem EncodeKind.clrkey : EncodeKind.Statement .clrkey := ⟨htWe_mkHT .., htWidx_mkHT ..⟩
theorem EncodeKind.absorb1 (b0 : Byte) : EncodeKind.Statement (.absorb1 b0) := ⟨htWe_mkHT .., htWidx_mkHT ..⟩
theorem EncodeKind.absorb2 (b0 b1 : Byte) : EncodeKind.Statement (.absorb2 b0 b1) := ⟨htWe_mkHT .., htWidx_mkHT ..⟩
theorem EncodeKind.absorb3 (b0 b1 b2 : Byte) : EncodeKind.Statement (.absorb3 b0 b1 b2) := ⟨htWe_mkHT .., htWidx_mkHT ..⟩
theorem EncodeKind.final : EncodeKind.Statement .final := ⟨htWe_mkHT .., htWidx_mkHT ..⟩
theorem EncodeKind.wrDin (w : Word) : EncodeKind.Statement (.wrDin w) := ⟨htWe_mkHT .., htWidx_mkHT ..⟩
theorem EncodeKind.rdStatus : EncodeKind.Statement .rdStatus := ⟨htWe_mkHT .., htWidx_mkHT ..⟩
theorem EncodeKind.rdMlen0 : EncodeKind.Statement .rdMlen0 := ⟨htWe_mkHT .., htWidx_mkHT ..⟩
theorem EncodeKind.rdMlen1 : EncodeKind.Statement .rdMlen1 := ⟨htWe_mkHT .., htWidx_mkHT ..⟩
theorem EncodeKind.rdSeed0 : EncodeKind.Statement .rdSeed0 := ⟨htWe_mkHT .., htWidx_mkHT ..⟩
theorem EncodeKind.rdSeed1 : EncodeKind.Statement .rdSeed1 := ⟨htWe_mkHT .., htWidx_mkHT ..⟩
theorem EncodeKind.rdDout (i : BitVec 4) : EncodeKind.Statement (.rdDout i) := by
  refine ⟨htWe_mkHT .., (htWidx_mkHT ..).trans ?_⟩
  revert i
  decide

end Sys2Proof.Laws
end

