-- ==== Sys2Proof/Laws/Step.lean ====
section
/-! SUPPORT. What one instruction, one transaction one step can do: an inversion lemma for each, which later proofs cite
instead of unfolding them. -/

namespace Sys2Proof.Machine

/-- The bytes an ABSORBn or DIN write carries, in absorb order (R102, R103); none for another instruction. -/
def dataBytes : Instr → List Byte
  | .absorb1 b0 => [b0]
  | .absorb2 b0 b1 => [b0, b1]
  | .absorb3 b0 b1 b2 => [b0, b1, b2]
  | .wrDin w => dinBytes w
  | .nop | .init _ _ | .ldseed _ _ | .ldkey _ | .clrkey | .final => []
  | .rdStatus | .rdMlen0 | .rdMlen1 | .rdSeed0 | .rdSeed1 | .rdDout _ => []

/-- Everything an instruction can do when it completes, by the shape of its effect. -/
theorem exec_cases {i : Instr} {s t : State} (h : exec i s = .next t) :
    (i = .nop ∧ t = s) ∨
    (∃ ol, i = .init .blake2b ol ∧ s.keyovf = true ∧ t = raise .key s) ∨
    (∃ alg ol, i = .init alg ol ∧ ¬(alg = .blake2b ∧ s.keyovf = true) ∧ t = startComputation alg ol s) ∨
    (∃ k imm, i = .ldseed k imm ∧ t = { s with seed := setSeedChunk s.seed k imm }) ∨
    (∃ b, i = .ldkey b ∧ t = appendKey b s) ∨
    (i = .clrkey ∧ t = clearKey s) ∨
    (dataBytes i ≠ [] ∧ t = absorbBytes (dataBytes i) s) ∨
    (i = .final ∧ t = finalise s) ∨
    (i ∈ [Instr.rdStatus, .rdMlen0, .rdMlen1, .rdSeed0, .rdSeed1] ∧ ∃ v, t = respond v s) ∨
    (∃ k v, i = .rdDout k ∧ t = respond v s) := by
  cases i with
  | nop => cases h; exact .inl ⟨rfl, rfl⟩
  | init alg ol =>
    cases h
    by_cases hk : alg = .blake2b ∧ s.keyovf = true
    · rw [if_pos hk]; obtain ⟨rfl, hk⟩ := hk; exact .inr (.inl ⟨ol, rfl, hk, rfl⟩)
    · rw [if_neg hk]; exact .inr (.inr (.inl ⟨alg, ol, rfl, hk, rfl⟩))
  | ldseed k imm => cases h; exact .inr (.inr (.inr (.inl ⟨k, imm, rfl, rfl⟩)))
  | ldkey b => cases h; exact .inr (.inr (.inr (.inr (.inl ⟨b, rfl, rfl⟩))))
  | clrkey => cases h; exact .inr (.inr (.inr (.inr (.inr (.inl ⟨rfl, rfl⟩)))))
  | absorb1 => cases h; exact .inr (.inr (.inr (.inr (.inr (.inr (.inl ⟨by simp [dataBytes], rfl⟩))))))
  | absorb2 => cases h; exact .inr (.inr (.inr (.inr (.inr (.inr (.inl ⟨by simp [dataBytes], rfl⟩))))))
  | absorb3 => cases h; exact .inr (.inr (.inr (.inr (.inr (.inr (.inl ⟨by simp [dataBytes], rfl⟩))))))
  | wrDin => cases h; exact .inr (.inr (.inr (.inr (.inr (.inr (.inl ⟨by simp [dataBytes, dinBytes], rfl⟩))))))
  | final => cases h; exact .inr (.inr (.inr (.inr (.inr (.inr (.inr (.inl ⟨rfl, rfl⟩)))))))
  | rdStatus => cases h; exact .inr (.inr (.inr (.inr (.inr (.inr (.inr (.inr (.inl ⟨by simp, _, rfl⟩))))))))
  | rdMlen0 => cases h; exact .inr (.inr (.inr (.inr (.inr (.inr (.inr (.inr (.inl ⟨by simp, _, rfl⟩))))))))
  | rdMlen1 => cases h; exact .inr (.inr (.inr (.inr (.inr (.inr (.inr (.inr (.inl ⟨by simp, _, rfl⟩))))))))
  | rdSeed0 => cases h; exact .inr (.inr (.inr (.inr (.inr (.inr (.inr (.inr (.inl ⟨by simp, _, rfl⟩))))))))
  | rdSeed1 => cases h; exact .inr (.inr (.inr (.inr (.inr (.inr (.inr (.inr (.inl ⟨by simp, _, rfl⟩))))))))
  | rdDout k => cases h; exact .inr (.inr (.inr (.inr (.inr (.inr (.inr (.inr (.inr ⟨k, _, rfl, rfl⟩))))))))

/-- Everything a transaction can do: the bus error, the illegal command, or its instruction. -/
theorem runTransaction_cases {ht : HT} {s t : State} (h : runTransaction ht s = .next t) :
    (decode ht = .busErr ∧ t = busError ht s) ∨ (decode ht = .illegal ∧ t = raise .illegal s) ∨
      ∃ i, decode ht = .instr i ∧ exec i s = .next t := by
  unfold runTransaction at h
  split at h
  · cases h; exact .inl ⟨‹_›, rfl⟩
  · cases h; exact .inr (.inl ⟨‹_›, rfl⟩)
  · exact .inr (.inr ⟨_, ‹_›, h⟩)

/-- Everything a step that completes can do. -/
theorem step_cases {s t : State} (h : step s = .next t) :
    holdsR67 s = true ∧
    ((s.pending = [] ∧ t = s) ∨
     (∃ ht rest, s.pending = .transaction ht :: rest ∧ runTransaction ht (takeEvent rest s) = .next t) ∨
     (∃ rest, s.pending = .reset :: rest ∧ t = resetEvent rest s) ∨
     (∃ ht rest, s.pending = .resetDuring ht :: rest ∧ t = abandonEvent ht rest s)) := by
  unfold step at h
  split at h
  · next hr =>
    refine ⟨hr, ?_⟩
    split at h
    · cases h; exact .inl ⟨‹_›, rfl⟩
    · exact .inr (.inl ⟨_, _, ‹_›, h⟩)
    · cases h; exact .inr (.inr (.inl ⟨_, ‹_›, rfl⟩))
    · cases h; exact .inr (.inr (.inr ⟨_, _, ‹_›, rfl⟩))
  · cases h

end Sys2Proof.Machine
end

