-- ==== Sys2Proof/Tests/Slice0.lean ====
section
/-! SUPPORT. Small tests, and a named witness for the hypotheses of each statement that has any. Expected values come from
spec/95_test_vectors.md (its row ids are named) or are written out from the rules; none is the model's own answer. -/

namespace Sys2Proof.Tests

open Sys2Proof Sys2Proof.Machine Sys2Proof.Safety

set_option Elab.async false

/-! ### WellFormed smoke: ill-formed terms the check refuses (R135) -/

theorem test_wf_refuses_outlen_65 : (Instr.init .blake2b 65).wellFormed = false := by decide
theorem test_wf_refuses_outlen_for_md5 : (Instr.init .md5 16).wellFormed = false := by decide
theorem test_wf_refuses_outlen_65_for_xxh64 : (Instr.init .xxh64 65).wellFormed = false := by decide
theorem test_wf_admits_outlen_64 : (Instr.init .blake2b 64).wellFormed = true := by decide

/-! ### Decoding: a word for every constructor, its fields written out in the order of R130 and R131 -/

theorem test_decode_nop : decode (0b1#1 ++ 0b00000#5 ++ 0x00#8 ++ 0x000000#24) = .instr .nop := by decide
theorem test_decode_init :
    decode (0b1#1 ++ 0b00000#5 ++ 0x01#8 ++ 0b000000000#9 ++ 0b0010000#7 ++ 0x0#4 ++ 0x3#4) =
      .instr (.init .blake2b 16) := by decide
theorem test_decode_init_xxh64 : decode 0x200100000A#38 = .instr (.init .xxh64 0) := by decide
theorem test_decode_ldseed :
    decode (0b1#1 ++ 0b00000#5 ++ 0x02#8 ++ 0b000000#6 ++ 0b11#2 ++ 0xFFFE#16) = .instr (.ldseed 3 0xFFFE) := by decide
theorem test_decode_ldkey :
    decode (0b1#1 ++ 0b00000#5 ++ 0x03#8 ++ 0x0000#16 ++ 0x4B#8) = .instr (.ldkey 0x4B) := by decide
theorem test_decode_clrkey : decode (0b1#1 ++ 0b00000#5 ++ 0x04#8 ++ 0x000000#24) = .instr .clrkey := by decide
theorem test_decode_absorb1 :
    decode (0b1#1 ++ 0b00000#5 ++ 0x05#8 ++ 0x0000#16 ++ 0x48#8) = .instr (.absorb1 0x48) := by decide
theorem test_decode_absorb2 :
    decode (0b1#1 ++ 0b00000#5 ++ 0x06#8 ++ 0x00#8 ++ 0x65#8 ++ 0x48#8) = .instr (.absorb2 0x48 0x65) := by decide
theorem test_decode_absorb3 :
    decode (0b1#1 ++ 0b00000#5 ++ 0x07#8 ++ 0x64#8 ++ 0x6C#8 ++ 0x72#8) = .instr (.absorb3 0x72 0x6C 0x64) := by decide
theorem test_decode_final : decode (0b1#1 ++ 0b00000#5 ++ 0x08#8 ++ 0x000000#24) = .instr .final := by decide
theorem test_decode_wrDin : decode (0b1#1 ++ 0b00010#5 ++ 0x6C6C6548#32) = .instr (.wrDin 0x6C6C6548) := by decide
theorem test_decode_rdStatus : decode (0b0#1 ++ 0b00001#5 ++ 0xFFFFFFFF#32) = .instr .rdStatus := by decide
theorem test_decode_rdMlen0 : decode (0b0#1 ++ 0b00011#5 ++ 0x00000000#32) = .instr .rdMlen0 := by decide
theorem test_decode_rdMlen1 : decode (0b0#1 ++ 0b00100#5 ++ 0x00000000#32) = .instr .rdMlen1 := by decide
theorem test_decode_rdSeed0 : decode (0b0#1 ++ 0b00101#5 ++ 0x00000000#32) = .instr .rdSeed0 := by decide
theorem test_decode_rdSeed1 : decode (0b0#1 ++ 0b00110#5 ++ 0x00000000#32) = .instr .rdSeed1 := by decide
theorem test_decode_rdDout : decode (0b0#1 ++ 0b10101#5 ++ 0x00000000#32) = .instr (.rdDout 5) := by decide

/-- The illegal words of section 3.1. -/
theorem test_decode_illegal :
    decode 0x2000000001#38 = .illegal ∧ decode 0x2009000000#38 = .illegal ∧ decode 0x20FF000000#38 = .illegal ∧
    decode 0x200100000B#38 = .illegal ∧ decode 0x2001001000#38 = .illegal ∧ decode 0x2001004103#38 = .illegal ∧
    decode 0x2001000010#38 = .illegal ∧ decode 0x2001008000#38 = .illegal ∧ decode 0x2002040000#38 = .illegal ∧
    decode 0x2003000100#38 = .illegal ∧ decode 0x2006010000#38 = .illegal ∧ decode 0x2008000001#38 = .illegal := by decide

/-- The bus errors of section 3.1. -/
theorem test_decode_busErr :
    decode 0x0000000000#38 = .busErr ∧ decode 0x0200000000#38 = .busErr ∧ decode 0x0700000000#38 = .busErr ∧
    decode 0x0F00000000#38 = .busErr ∧ decode 0x2100000000#38 = .busErr ∧ decode 0x2300000000#38 = .busErr ∧
    decode 0x3000000000#38 = .busErr ∧ decode 0x2900000000#38 = .busErr := by decide

theorem test_encode_init : encode (.init .blake2b 16) = 0x2001001003#38 := by decide
theorem test_encode_absorb3 : encode (.absorb3 0x72 0x6C 0x64) = 0x2007646C72#38 := by decide
theorem test_encode_rdDout : encode (.rdDout 15) = 0x1F00000000#38 := by decide
theorem test_decodeTableWord : decodeTableWord 40 0x2001001003 = some (.init .blake2b 16) := by decide
theorem test_decodeTableWord_no_record : decodeTableWord 40 (2 ^ 38) = none := by decide

/-! ### Engines on one short message each (section 2; the published or source vectors) -/

theorem test_md5_abc : hex (md5Digest [0x61, 0x62, 0x63]) = "900150983cd24fb0d6963f7d28e17f72" := by decide +kernel
theorem test_sha512_abc :
    hex (sha512Digest [0x61, 0x62, 0x63]) =
      "ddaf35a193617abacc417349ae20413112e6fa4e89a97ea20a9eeee64b55d39a" ++
      "2192992a274fc1a836ba3c23a3feebbd454d4423643ce80e2a9ac94fa54ca49f" := by decide +kernel
theorem test_sha3_abc :
    hex (sha3Digest [0x61, 0x62, 0x63]) = "3a985da74fe225b2045c172d6bd390bd855f086e3e9d525b46bfe24511431532" := by
  decide +kernel
theorem test_blake2b_abc :
    hex (blake2bDigest [0x61, 0x62, 0x63] [] 32) =
      "bddd813c634239723171ef3fee98579b94964e3bb1cb3e427262c8c068d52319" := by decide +kernel
theorem test_ripemd160_abc :
    hex (rmdDigest [0x61, 0x62, 0x63]) = "8eb208f7e05d987a9b044a8e98c6b087f15a0bfc" := by decide +kernel
theorem test_tiger_abc :
    hex (tigerDigest [0x61, 0x62, 0x63]) = "2aab1484e8c158f2bfb8c5ff41b57a525129131c957b5f93" := by decide +kernel
theorem test_crc_a :
    (hex (crc16Digest [0x61]), hex (crc32Digest [0x61]), hex (crc64Digest [0x61])) =
      ("9d77", "e8b7be43", "548f120162451c62") := by decide +kernel
theorem test_murmur3_one_block : hex (mm3Digest (List.replicate 4 0x61) 0x9747B28C) = "5a97808a" := by decide +kernel
theorem test_murmur3_tail : hex (mm3Digest [0x61, 0x62, 0x63] 0) = "b3dd93fa" := by decide +kernel
theorem test_xxh64_short : hex (xxhDigest [0x61, 0x62, 0x63] 1) = "bea9ca8199328908" := by decide +kernel
theorem test_xxh64_long : hex (xxhDigest (List.replicate 33 0x61) 0) = "18f3ff0c21e3b24b" := by decide +kernel

/-! ### One step each -/

/-- `s` with one host transaction to perform. -/
def issue (ht : HT) (s : State) : State := { s with pending := [.transaction ht] }

/-- A field of the state after one step, if the step completes. -/
def after {α : Type} (f : State → α) (s : State) : Option α :=
  match step s with
  | .next t => some (f t)
  | .fault _ => none
  | .refused _ => none

/-- A CRC-16 computation that has absorbed "a". -/
def activeCrc : State := feed [0x61] (startComputation .crc16 0 State.reset)

/-- It, finished. -/
def doneCrc : State := loadDigest [0x9D, 0x77] activeCrc

/-- A computation whose byte count stands at `n`; not a reachable state, but the data commands read only these registers. -/
def countAt (n : BitVec 64) : State := { activeCrc with mlen := n }

/-- The next instruction fetched is the record withFetchWord places. -/
theorem test_withFetchWord : after statusWord (State.reset.withFetchWord 40 0x2001000000) = some 0x00000001 := by
  decide +kernel
theorem test_nop : after id (issue 0x2000000000 { State.reset with err := .key }) =
    some { State.reset with err := .key } := by decide +kernel
/-- T6. -/
theorem test_init_default_outlen :
    after (fun t => (statusWord t, t.outlen)) (issue 0x2001000003 State.reset) = some (0x00000301, 64) := by decide +kernel
/-- T47. -/
theorem test_init_clears_digest :
    after (fun t => (t.digest.getD 0 0, t.dlen, t.mlen)) (issue 0x2001000000 doneCrc) = some (0, 0, 0) := by decide +kernel
/-- T16. -/
theorem test_ldseed :
    after State.seed (issue 0x2002001234 { State.reset with seed := 0xFFFF000000005678 }) =
      some 0xFFFF000000001234 := by decide +kernel
/-- T18. -/
theorem test_ldkey : after statusWord (issue 0x200300004B State.reset) = some 0x00100000 := by decide +kernel
/-- T20. -/
theorem test_ldkey_overflow :
    after statusWord (issue 0x2003000080 { State.reset with keylen := 128 }) = some 0x08080000 := by decide +kernel
/-- T23. -/
theorem test_clrkey :
    after statusWord (issue 0x2004000000 { State.reset with keylen := 128, keyovf := true, err := .key }) =
      some 0x00000040 := by decide +kernel
/-- T25. -/
theorem test_absorb1_idle : after statusWord (issue 0x2005000061 State.reset) = some 0x00000030 := by decide +kernel
theorem test_absorb2 : after State.msg (issue 0x2006006548 activeCrc) = some [0x61, 0x48, 0x65] := by decide +kernel
theorem test_absorb3 : after State.msg (issue 0x2007646C72 activeCrc) = some [0x61, 0x72, 0x6C, 0x64] := by decide +kernel
theorem test_wrDin : after State.msg (issue 0x226C6C6548 activeCrc) = some [0x61, 0x48, 0x65, 0x6C, 0x6C] := by
  decide +kernel
/-- The CRC-16 of "a" (section 2.7). -/
theorem test_final :
    after (fun t => (statusWord t, doutWord t.digest 0)) (issue 0x2008000000 activeCrc) =
      some (0x00002602, 0x9D770000) := by decide +kernel
/-- T45. -/
theorem test_final_twice : after statusWord (issue 0x2008000000 doneCrc) = some 0x00002632 := by decide +kernel
theorem test_rdStatus : after State.response (issue 0x0100000000 doneCrc) = some (.rdata 0x00002602) := by decide +kernel
theorem test_rdMlen0 : after State.response (issue 0x0300000000 activeCrc) = some (.rdata 1) := by decide +kernel
theorem test_rdMlen1 : exec .rdMlen1 (countAt 0x1234567800000001) =
    .next (respond 0x12345678 (countAt 0x1234567800000001)) := by rfl
theorem test_rdSeed0 : after State.response (issue 0x0500000000 { State.reset with seed := 0x1122334455667788 }) =
    some (.rdata 0x55667788) := by decide +kernel
theorem test_rdSeed1 : after State.response (issue 0x0600000000 { State.reset with seed := 0x1122334455667788 }) =
    some (.rdata 0x11223344) := by decide +kernel
theorem test_rdDout : after State.response (issue 0x1000000000 doneCrc) = some (.rdata 0x9D770000) := by decide +kernel
/-- T54: four bytes more than the count has room for. -/
theorem test_wrDin_past_limit :
    exec (.wrDin 0x64636261) (countAt 0xFFFFFFFFFFFFFFFC) =
      .next { countAt 0xFFFFFFFFFFFFFFFC with err := .len } := rfl
/-- T55: three bytes reach the limit exactly. -/
theorem test_absorb3_to_limit :
    (absorbBytes [0x61, 0x62, 0x63] (countAt 0xFFFFFFFFFFFFFFFC)).mlen = 0xFFFFFFFFFFFFFFFF := by decide +kernel
/-- R701: the FINAL is abandoned, and nothing of the computation is left. -/
theorem test_reset_during_final :
    after (fun t => (t.phase, t.msg, t.digest.getD 0 0, t.response))
      { activeCrc with pending := [.resetDuring 0x2008000000] } = some (.idle, [], 0, .cutShort none) := by decide +kernel
/-- T30. -/
theorem test_busErr_read :
    after (fun t => (statusWord t, t.response)) (issue 0x0000000000 State.reset) = some (0x00000010, .rdata 0) := by
  decide +kernel
/-- T53. -/
theorem test_illegal_keeps_error :
    after statusWord (issue 0x200100000B { activeCrc with err := .bus }) = some 0x00000611 := by decide +kernel

/-! ### Witnesses: concrete states and operands that meet each statement's hypotheses -/

/-- A state in the middle of a computation meets the invariant. -/
theorem witness_inv_active : StateInv activeCrc where
  r67 := by decide +kernel
  idle := by intro h; cases h
  outlen := by intro _; rfl
  ckey := ⟨by decide, fun _ => rfl⟩
  key := by
    intro i _ hi
    show (Vector.replicate 128 (0 : Byte)).getD i 0 = 0
    simp [Vector.getD, hi]
  digest := by decide +kernel
  stream := fun _ => ⟨Datapath.afterReset, rfl⟩

/-- So does it with any events pending. -/
theorem inv_pending (p : List HostEvent) {s : State} (h : StateInv s) : StateInv { s with pending := p } :=
  ⟨h.r67, h.idle, h.outlen, h.ckey, h.key, h.digest, h.stream⟩

theorem witness_DecodeOfEncodeIsIdentity :
    (Instr.init .blake2b 64).wellFormed = true ∧ (Instr.init .xxh64 0).wellFormed = true := by decide
theorem witness_DecodedInstructionIsCanonical :
    decode 0x2007646C72#38 = .instr (.absorb3 0x72 0x6C 0x64) ∧ htWe 0x2007646C72#38 = true ∧
      decode 0x0112345678#38 = .instr .rdStatus ∧ htWe 0x0112345678#38 = false := by decide
theorem witness_StepRunsTheDecodedInstruction :
    holdsR67 (issue 0x2008000000 activeCrc) = true ∧
      (issue 0x2008000000 activeCrc).pending = .transaction 0x2008000000 :: [] ∧
      decode 0x2008000000 = .instr .final := by decide +kernel
theorem witness_StepOnIllegalWordRaisesIllegal :
    holdsR67 (issue 0x2009000000 activeCrc) = true ∧
      (issue 0x2009000000 activeCrc).pending = .transaction 0x2009000000 :: [] ∧ decode 0x2009000000 = .illegal := by
  decide +kernel
theorem witness_StepOnBusErrorRaisesBus :
    holdsR67 (issue 0x0700000000 activeCrc) = true ∧ decode 0x0700000000 = .busErr ∧
      (0x0700000000#38).getLsbD 37 = false ∧ decode 0x2100000000 = .busErr ∧ (0x2100000000#38).getLsbD 37 = true := by
  decide +kernel
theorem witness_StepWithoutEventChangesNothing : holdsR67 activeCrc = true ∧ activeCrc.pending = [] := by decide +kernel
theorem witness_ResetEventGivesResetState :
    let s := { activeCrc with pending := [.reset, .transaction 0x2000000000] }
    holdsR67 s = true ∧ s.pending = .reset :: [.transaction 0x2000000000] := by decide +kernel
theorem witness_ResetDuringTransactionAbandonsIt :
    let s := { activeCrc with pending := [.resetDuring 0x2008000000, .resetDuring 0x0100000000] }
    holdsR67 s = true ∧ s.pending = .resetDuring 0x2008000000 :: [.resetDuring 0x0100000000] ∧
      (0x2008000000#38).getLsbD 37 = true ∧ (0x0100000000#38).getLsbD 37 = false := by decide +kernel
theorem witness_ViolatedInvariantIsAFault : holdsR67 (countAt 7) = false := by decide +kernel
theorem witness_AcceptedStatesAreThoseOfR67 : holdsR67 activeCrc = true ∧ holdsR67 doneCrc = true := by decide +kernel
theorem witness_NopChangesNothing : (0x000001#24) ≠ 0 := by decide
theorem witness_InitStartsAComputation :
    initLegal .blake2b 64 = true ∧ ¬(Alg.blake2b = .blake2b ∧ doneCrc.keyovf = true) ∧ initLegal .md5 0 = true := by
  decide +kernel
theorem witness_InitWithOverlongKeyRaisesKey :
    ({ activeCrc with keylen := 128, keyovf := true } : State).keyovf = true ∧ Alg.md5 ≠ .blake2b := by decide +kernel
/-- Every clause has an instruction that meets its premises. -/
theorem witness_InitChoosesTheDigestLength :
    ∀ alg ∈ [Alg.md5, .sha512, .sha3_256, .blake2b, .ripemd160, .tiger192, .crc16, .crc32, .crc64, .murmur3_32, .xxh64],
      initLegal alg 0 = true ∧ initLegal .blake2b 1 = true ∧ ¬(alg = .blake2b ∧ doneCrc.keyovf = true) ∧
        exec (.init alg 0) doneCrc = .next (startComputation alg 0 doneCrc) := by
  intro alg _
  cases alg <;> exact ⟨by decide, by decide, by decide +kernel, rfl⟩
theorem witness_LdseedWritesItsChunk : 2 ≤ (2#2).toNat ∧ 2 ≤ (3#2).toNat ∧ (0x20#6) ≠ 0 := by decide
theorem witness_LdkeyAppendsOrOverflows :
    ({ State.reset with keylen := 127 } : State).keylen.toNat < 128 ∧
      ({ State.reset with keylen := 128 } : State).keylen.toNat = 128 ∧ (0x8000#16) ≠ 0 := by decide +kernel
theorem witness_ClrkeyClearsTheKeyStore :
    let s := issue 0x2004000000 { activeCrc with keylen := 128, keyovf := true }
    step s = .next (clearKey (takeEvent [] s)) ∧ s.keyovf = true ∧ (clearKey (takeEvent [] s)).keyovf = false ∧
      (0x000001#24) ≠ 0 := ⟨rfl, rfl, rfl, by decide⟩
/-- Each clause at the last count that has room. -/
theorem witness_DataCommandsAbsorbTheirBytes :
    (countAt 5).err = .none ∧ (countAt 5).phase = .active ∧
      (countAt 0xFFFFFFFFFFFFFFFE).mlen.toNat + 1 ≤ 2 ^ 64 - 1 ∧ (countAt 0xFFFFFFFFFFFFFFFD).mlen.toNat + 2 ≤ 2 ^ 64 - 1 ∧
      (countAt 0xFFFFFFFFFFFFFFFC).mlen.toNat + 3 ≤ 2 ^ 64 - 1 ∧
      (countAt 0xFFFFFFFFFFFFFFFB).mlen.toNat + 4 ≤ 2 ^ 64 - 1 := by decide +kernel
theorem witness_AbsorbingInPartsIsAbsorbingAtOnce :
    activeCrc.err = .none ∧ activeCrc.phase = .active ∧
      activeCrc.mlen.toNat + [0x62#8].length + [0x63#8, 0x64#8].length ≤ 2 ^ 64 - 1 := by decide +kernel
theorem witness_DataOutsideActiveRaisesSeq :
    State.reset.err = .none ∧ State.reset.phase = .idle ∧ doneCrc.err = .none ∧ doneCrc.phase = .done := by decide +kernel
/-- Each clause at the first count that has none. -/
theorem witness_AbsorbPastTheLimitRaisesLen :
    (countAt 5).err = .none ∧ (countAt 5).phase = .active ∧
      (countAt 0xFFFFFFFFFFFFFFFF).mlen.toNat + 1 > 2 ^ 64 - 1 ∧ (countAt 0xFFFFFFFFFFFFFFFE).mlen.toNat + 2 > 2 ^ 64 - 1 ∧
      (countAt 0xFFFFFFFFFFFFFFFD).mlen.toNat + 3 > 2 ^ 64 - 1 ∧
      (countAt 0xFFFFFFFFFFFFFFFC).mlen.toNat + 4 > 2 ^ 64 - 1 := by decide +kernel
theorem witness_ErrorDiscardsDataAndFinal : ({ activeCrc with err := .bus } : State).err ≠ .none := by decide +kernel
theorem witness_FinalLoadsTheDigest :
    activeCrc.err = .none ∧ activeCrc.phase = .active ∧ outlenLegal activeCrc.alg activeCrc.outlen := ⟨rfl, rfl, rfl⟩
theorem witness_RdDoutReturnsFourDigestBytes : StateInv activeCrc ∧ activeCrc.phase ≠ .done :=
  ⟨witness_inv_active, by decide +kernel⟩
theorem witness_ReadsDoNotRevealTheKey :
    Instr.rdStatus ∈ [Instr.rdStatus, .rdMlen0, .rdMlen1, .rdSeed0, .rdSeed1] ++
        (List.range 16).map (fun k => Instr.rdDout (BitVec.ofNat 4 k)) ∧
      Instr.rdDout 15 ∈ [Instr.rdStatus, .rdMlen0, .rdMlen1, .rdSeed0, .rdSeed1] ++
        (List.range 16).map (fun k => Instr.rdDout (BitVec.ofNat 4 k)) := by decide +kernel
/-- An error kept by a discarded FINAL, and one cleared by INIT. -/
theorem witness_RecordedErrorIsSticky :
    let s := issue 0x2008000000 { activeCrc with err := .seq }
    let u := issue 0x2001000000 { activeCrc with err := .seq }
    step s = .next (takeEvent [] s) ∧ s.err ≠ .none ∧
      step u = .next (startComputation .md5 0 (takeEvent [] u)) ∧ u.err ≠ .none :=
  ⟨rfl, by decide +kernel, rfl, by decide +kernel⟩
/-- A step that completes; the same for every statement about any step. -/
theorem witness_PhaseMovesAsListed :
    let s := issue 0x2001000000 activeCrc
    step s = .next (startComputation .md5 0 (takeEvent [] s)) := rfl
theorem witness_SeedChangesOnlyByLdseedOrReset :
    let s := issue 0x2002001234 activeCrc
    step s = .next { takeEvent [] s with seed := setSeedChunk s.seed 0 0x1234 } := rfl
theorem witness_KeyStoreChangesOnlyByKeyCommandsOrReset :
    let s := issue 0x200300004B activeCrc
    step s = .next (appendKey 0x4B (takeEvent [] s)) := rfl
theorem witness_DigestChangesOnlyByInitFinalOrReset :
    let s := issue 0x2008000000 activeCrc
    step s = .next (finalise (takeEvent [] s)) := rfl
theorem witness_ContextChangesOnlyByInitOrReset :
    let s := { activeCrc with pending := [.reset] }
    step s = .next (resetEvent [] s) := rfl
theorem witness_MessageGrowsOnlyByAbsorbs :
    let s := issue 0x2006006548 activeCrc
    step s = .next (absorbBytes [0x48, 0x65] (takeEvent [] s)) := rfl
theorem witness_EveryStepKeepsTheInvariant :
    let s := issue 0x2008000000 activeCrc
    StateInv s ∧ step s = .next (finalise (takeEvent [] s)) := ⟨inv_pending _ witness_inv_active, rfl⟩
theorem witness_StepFromInvariantCompletes : StateInv (issue 0x2008000000 activeCrc) := inv_pending _ witness_inv_active
theorem witness_StreamingEqualsWholeMessageDigest : (List.replicate 128 (0x4B : Byte)).length ≤ 128 := by decide +kernel
theorem witness_FinalEqualsEngineFinal :
    StateInv activeCrc ∧ activeCrc.phase = .active ∧ activeCrc.err = .none := ⟨witness_inv_active, rfl, rfl⟩
theorem witness_DigestHasOutlenBytes : 1 ≤ 1 ∧ 1 ≤ 64 ∧ 64 ≤ 64 := by decide
theorem witness_UnreadConfigurationHasNoEffect :
    Alg.md5 ≠ .blake2b ∧ Alg.blake2b ≠ .murmur3_32 ∧ Alg.blake2b ≠ .xxh64 ∧
      (0x0000000100000000#64).extractLsb' 0 32 = (0#64).extractLsb' 0 32 := by decide
theorem witness_PaddedBlockCount :
    ∀ n ∈ [55, 56, 63, 64, 119, 120], (List.replicate n (0x61 : Byte)).length = n := by
  intro n _
  exact List.length_replicate
theorem witness_Sha512PadIsTheLeastPadding :
    ∀ n ∈ [0, 111, 112, 128], (List.replicate n (0x61 : Byte)).length = n ∧ n < 2 ^ 64 := by
  intro n hn
  refine ⟨List.length_replicate, ?_⟩
  revert n
  decide
theorem witness_Sha3FinalBlockBytes :
    ∀ n ∈ [0, 134, 135], (List.replicate n (0x61 : Byte)).length = n ∧ n ≤ 135 := by
  intro n hn
  refine ⟨List.length_replicate, ?_⟩
  revert n
  decide
/-- No input (N = 0), and a keyed one. -/
theorem witness_Blake2bFillInvariant :
    ([] : List Byte).length ≤ 128 ∧ ([] : List Byte).length < 2 ^ 64 ∧ (List.replicate 128 (0x4B : Byte)).length ≤ 128 := by
  decide +kernel
theorem witness_CrcTablesAreGenerated : 0 < 256 ∧ 255 < 256 := by decide
theorem witness_SetSeedSequenceLoadsTheSeed : StateInv activeCrc := witness_inv_active
theorem witness_SetKeySequenceLoadsTheKey : StateInv { activeCrc with pending := [.reset] } :=
  inv_pending _ witness_inv_active
theorem witness_HashSequenceLoadsTheDigest :
    StateInv activeCrc ∧ initLegal .blake2b 64 = true ∧ ¬(Alg.blake2b = .blake2b ∧ activeCrc.keyovf = true) ∧
      [0x61#8, 0x62#8, 0x63#8].length < 2 ^ 64 := ⟨witness_inv_active, by decide, by decide +kernel, by decide⟩

end Sys2Proof.Tests
end

section
/-! Serializing a word and reading it back (R11 of spec/00_scope.md), for every width that is a whole number of bytes. -/

namespace Sys2Proof.Machine

variable {N : Nat}

@[simp] theorem getElem_leBytes (v : BitVec N) (k : Nat) (hk : k < (leBytes v).length) :
    (leBytes v)[k] = v.extractLsb' (8 * k) 8 := by
  simp [leBytes]

@[simp] theorem getElem_beBytes (v : BitVec N) (k : Nat) (hk : k < (beBytes v).length) :
    (beBytes v)[k] = v.extractLsb' (8 * (N / 8 - 1 - k)) 8 := by
  simp [beBytes]

theorem byteAt_eq_getElem (B : List Byte) (i : Nat) (hi : i < B.length) : byteAt B i = B[i] := by
  simp [byteAt, hi]

theorem byteAt_leBytes (v : BitVec N) (k : Nat) (hk : k < N / 8) :
    byteAt (leBytes v) k = v.extractLsb' (8 * k) 8 := by
  rw [byteAt_eq_getElem _ _ (by simpa using hk), getElem_leBytes]

theorem byteAt_reverse (B : List Byte) (i : Nat) (hi : i < B.length) :
    byteAt B.reverse i = byteAt B (B.length - 1 - i) := by
  rw [byteAt_eq_getElem _ _ (by simpa using hi), byteAt_eq_getElem _ _ (by omega), List.getElem_reverse]

/-- The big-endian serialization is the little-endian one, read from its end. -/
theorem beBytes_eq_reverse_leBytes (v : BitVec N) : beBytes v = (leBytes v).reverse := by
  apply List.ext_getElem
  · simp
  · intro k h1 h2
    simp

/-- The loops of `leRead` and `beRead` add up one term per byte. -/
theorem foldl_range_add_eq_sum (f : Nat → BitVec N) (n : Nat) :
    (List.range n).foldl (fun acc k => acc + f k) 0 = ∑ k ∈ Finset.range n, f k := by
  induction n with
  | zero => rfl
  | succ n ih => rw [List.range_succ, List.foldl_append, ih, Finset.sum_range_succ]; rfl

theorem leRead_zero_eq_sum (B : List Byte) :
    leRead N B 0 = ∑ k ∈ Finset.range (N / 8), (byteAt B k).setWidth N <<< (8 * k) := by
  simp only [leRead, Nat.zero_add, foldl_range_add_eq_sum]

theorem beRead_zero_eq_sum (B : List Byte) :
    beRead N B 0 = ∑ k ∈ Finset.range (N / 8), (byteAt B k).setWidth N <<< (8 * (N / 8 - 1 - k)) := by
  simp only [beRead, Nat.zero_add, foldl_range_add_eq_sum]

/-- Reading a word's bytes big-endian is reading them backwards little-endian: the sum's terms change places. -/
theorem beRead_reverse (B : List Byte) (hB : B.length = N / 8) : beRead N B.reverse 0 = leRead N B 0 := by
  rw [beRead_zero_eq_sum, leRead_zero_eq_sum, ← Finset.sum_range_reflect]
  apply Finset.sum_congr rfl
  intro k hk
  have hlt : k < N / 8 := Finset.mem_range.mp hk
  have hkk : N / 8 - 1 - (N / 8 - 1 - k) = k := by omega
  rw [byteAt_reverse _ _ (by omega), hB, hkk]

/-- A byte of a word, put back in its place, as a number. -/
theorem setWidth_extractLsb'_shiftLeft (v : BitVec N) (s : Nat) :
    (v.extractLsb' s 8).setWidth N <<< s = BitVec.ofNat N (2 ^ s * (v.toNat / 2 ^ s % 2 ^ 8)) := by
  apply BitVec.eq_of_toNat_eq
  simp only [BitVec.toNat_shiftLeft, BitVec.toNat_setWidth, BitVec.extractLsb'_toNat, BitVec.toNat_ofNat,
    Nat.shiftLeft_eq, Nat.shiftRight_eq_div_pow, Nat.mul_comm, Nat.mul_mod_mod]

/-- The lowest m bytes of a word add up to the word modulo 2^(8m). -/
theorem sum_bytes_eq_mod (v : BitVec N) (m : Nat) :
    ∑ k ∈ Finset.range m, (v.extractLsb' (8 * k) 8).setWidth N <<< (8 * k) =
      BitVec.ofNat N (v.toNat % 2 ^ (8 * m)) := by
  induction m with
  | zero => simp [Nat.mod_one]
  | succ m ih =>
    have hsplit : v.toNat % 2 ^ (8 * (m + 1)) =
        v.toNat % 2 ^ (8 * m) + 2 ^ (8 * m) * (v.toNat / 2 ^ (8 * m) % 2 ^ 8) := by
      rw [Nat.mul_succ, Nat.pow_add, Nat.mod_mul]
    rw [Finset.sum_range_succ, ih, setWidth_extractLsb'_shiftLeft, hsplit, BitVec.ofNat_add]

theorem leRead_leBytes (h8 : 8 ∣ N) (v : BitVec N) : leRead N (leBytes v) 0 = v := by
  have hterms : ∀ k ∈ Finset.range (N / 8), (byteAt (leBytes v) k).setWidth N <<< (8 * k) =
      (v.extractLsb' (8 * k) 8).setWidth N <<< (8 * k) := by
    intro k hk
    rw [byteAt_leBytes v k (Finset.mem_range.mp hk)]
  rw [leRead_zero_eq_sum, Finset.sum_congr rfl hterms, sum_bytes_eq_mod, Nat.mul_div_cancel' h8,
    Nat.mod_eq_of_lt v.isLt, BitVec.ofNat_toNat, BitVec.setWidth_eq]

theorem beRead_beBytes (h8 : 8 ∣ N) (v : BitVec N) : beRead N (beBytes v) 0 = v := by
  rw [beBytes_eq_reverse_leBytes, beRead_reverse _ (length_leBytes v), leRead_leBytes h8]

/-- Settles O53: both words are a whole number of bytes wide. -/
theorem serializationsReadBack : Obligations.SerializationsReadBack :=
  ⟨fun v => ⟨leRead_leBytes (by decide) v, beRead_beBytes (by decide) v, beBytes_eq_reverse_leBytes v⟩,
    fun v => ⟨leRead_leBytes (by decide) v, beRead_beBytes (by decide) v, beBytes_eq_reverse_leBytes v⟩⟩

end Sys2Proof.Machine
end

section
/-! What a completed step can do, by the host's event, with the registers it writes: the inversion of `step` that the
statements about PHASE, SEED, the key store, the computation context and MSG share (R55 to R62); and that a step from a
state the check accepts completes (R67). -/

namespace Sys2Proof.Machine

open Sys2Proof.Safety

/-- The effects of a step that completes. Every effect takes the event off the host's stream; `quiet` stands for an idle
step, NOP, a read, and every error and discard, which leave all other registers of the core alone (R108, R600, R609). -/
inductive StepEffect (s : State) : State → Prop where
  | quiet (err : Err) (pending : List HostEvent) (response : Response) :
      StepEffect s { s with err := err, pending := pending, response := response }
  | reset (rest : List HostEvent) (response : Response) (freeCount : Nat) :
      resets s → StepEffect s { State.reset with pending := rest, response := response, freeCount := freeCount }
  | start (alg : Alg) (ol : BitVec 7) (rest : List HostEvent) :
      startsComputation s → initLegal alg ol = true → StepEffect s (startComputation alg ol (takeEvent rest s))
  | ldseed (k : BitVec 2) (imm : BitVec 16) (rest : List HostEvent) :
      performs s (.ldseed k imm) → StepEffect s { takeEvent rest s with seed := setSeedChunk s.seed k imm }
  | ldkey (b : Byte) (rest : List HostEvent) :
      performs s (.ldkey b) → StepEffect s (appendKey b (takeEvent rest s))
  | clrkey (rest : List HostEvent) : performs s .clrkey → StepEffect s (clearKey (takeEvent rest s))
  | feed (S : List Byte) (rest : List HostEvent) :
      absorbs s S → s.phase = .active → s.err = .none → s.mlen.toNat + S.length ≤ 2 ^ 64 - 1 →
        StepEffect s (feed S (takeEvent rest s))
  | final (rest : List HostEvent) :
      performs s .final → s.phase = .active → s.err = .none →
        StepEffect s (loadDigest (digestOf s.alg s.outlen.toNat s.cseed s.ckey s.msg) (takeEvent rest s))

theorem StepEffect.of_raise (e : Err) (rest : List HostEvent) (response : Response) (s : State) :
    StepEffect s (raise e { s with pending := rest, response := response }) := by
  obtain ⟨-, h⟩ | ⟨-, h⟩ := raise_cases e { s with pending := rest, response := response } <;> rw [h]
  · exact .quiet e rest response
  · exact .quiet s.err rest response

theorem StepEffect.of_busError (ht : HT) (rest : List HostEvent) (s : State) :
    StepEffect s (busError ht (takeEvent rest s)) := by
  unfold busError
  split
  · exact .of_raise .bus rest .nothing s
  · exact .of_raise .bus rest (.rdata 0) s

/-- An instruction that carries data bytes is an ABSORBn or a DIN write of them. -/
theorem absorbs_dataBytes {s : State} {i : Instr} (hi : performs s i) (hne : dataBytes i ≠ []) :
    absorbs s (dataBytes i) := by
  cases i with
  | absorb1 b0 => exact .inl ⟨b0, hi, rfl⟩
  | absorb2 b0 b1 => exact .inr (.inl ⟨b0, b1, hi, rfl⟩)
  | absorb3 b0 b1 b2 => exact .inr (.inr (.inl ⟨b0, b1, b2, hi, rfl⟩))
  | wrDin w => exact .inr (.inr (.inr ⟨w, hi, rfl⟩))
  | nop | init _ _ | ldseed _ _ | ldkey _ | clrkey | final => exact absurd rfl hne
  | rdStatus | rdMlen0 | rdMlen1 | rdSeed0 | rdSeed1 | rdDout _ => exact absurd rfl hne

theorem StepEffect.of_absorbBytes {s : State} {S : List Byte} (rest : List HostEvent) (hS : absorbs s S) :
    StepEffect s (absorbBytes S (takeEvent rest s)) := by
  obtain ⟨-, h⟩ | ⟨-, -, h⟩ | ⟨-, -, -, h⟩ | ⟨he, hp, hl, h⟩ := absorbBytes_cases S (takeEvent rest s) <;> rw [h]
  · exact .quiet s.err rest .nothing
  · exact .quiet .seq rest .nothing
  · exact .quiet .len rest .nothing
  · exact .feed S rest hS hp he hl

theorem StepEffect.of_finalise {s : State} (rest : List HostEvent) (hf : performs s .final) :
    StepEffect s (finalise (takeEvent rest s)) := by
  obtain ⟨-, h⟩ | ⟨-, -, h⟩ | ⟨he, hp, h⟩ := finalise_cases (takeEvent rest s) <;> rw [h]
  · exact .quiet s.err rest .nothing
  · exact .quiet .seq rest .nothing
  · exact .final rest hf hp he

theorem initLegal_of_decodeInit {w : Word} {alg : Alg} {ol : BitVec 7}
    (h : decodeInit w = .instr (.init alg ol)) : initLegal alg ol = true := by
  unfold decodeInit at h
  split at h
  · cases h
  · split at h
    · cases h
    · split at h <;> cases h
      assumption

/-- The decoder answers only an INIT whose operands are legal (R135). -/
theorem initLegal_of_decode {ht : HT} {alg : Alg} {ol : BitVec 7}
    (h : decode ht = .instr (.init alg ol)) : initLegal alg ol = true := by
  unfold decode decodeWrite decodeRead at h
  split at h
  · split at h
    · unfold decodeCmd at h
      split at h
      case h_2 => exact initLegal_of_decodeInit h
      case h_8 | h_10 => cases h
      all_goals split at h <;> cases h
    · cases h
    · cases h
  · split at h
    · cases h
    · split at h <;> cases h

/-- An instruction's effect, where its transaction is the next event. -/
theorem StepEffect.of_exec {s t : State} {ht : HT} {rest : List HostEvent} {i : Instr}
    (hp : s.pending = .transaction ht :: rest) (hd : decode ht = .instr i) (h : exec i (takeEvent rest s) = .next t) :
    StepEffect s t := by
  have hi : performs s i := ⟨ht, rest, hp, hd⟩
  obtain ⟨-, rfl⟩ | ⟨ol, -, -, rfl⟩ | ⟨alg, ol, rfl, hk, rfl⟩ | ⟨k, imm, rfl, rfl⟩ | ⟨b, rfl, rfl⟩ | ⟨rfl, rfl⟩ |
    ⟨hS, rfl⟩ | ⟨rfl, rfl⟩ | ⟨-, v, rfl⟩ | ⟨k, v, -, rfl⟩ := exec_cases h
  · exact .quiet s.err rest .nothing
  · exact .of_raise .key rest .nothing s
  · exact .start alg ol rest ⟨alg, ol, hi, hk⟩ (initLegal_of_decode hd)
  · exact .ldseed k imm rest hi
  · exact .ldkey b rest hi
  · exact .clrkey rest hi
  · exact .of_absorbBytes rest (absorbs_dataBytes hi hS)
  · exact .of_finalise rest hi
  · exact .quiet s.err rest (.rdata v)
  · exact .quiet s.err rest (.rdata v)

theorem stepEffect_of_step {s t : State} (h : step s = .next t) : StepEffect s t := by
  obtain ⟨-, ⟨-, rfl⟩ | ⟨ht, rest, hp, h⟩ | ⟨rest, hp, rfl⟩ | ⟨ht, rest, hp, rfl⟩⟩ := step_cases h
  · exact .quiet t.err t.pending t.response
  · obtain ⟨-, rfl⟩ | ⟨-, rfl⟩ | ⟨i, hd, h⟩ := runTransaction_cases h
    · exact .of_busError ht rest s
    · exact .of_raise .illegal rest .nothing s
    · exact .of_exec hp hd h
  · exact .reset rest .nothing s.freeCount (.inl ⟨rest, hp⟩)
  · exact .reset rest _ (s.freeCount + 1) (.inr ⟨ht, rest, hp⟩)

/-- Settles O34: INIT, FINAL and reset are the effects that write PHASE. -/
theorem phaseMovesAsListed : Obligations.PhaseMovesAsListed := by
  intro s t h
  cases stepEffect_of_step h with
  | quiet | ldseed | clrkey | feed => exact .inl rfl
  | ldkey b rest => exact .inl (appendKey_phase b _)
  | reset _ _ _ hr => exact .inr (.inr (.inr ⟨rfl, hr⟩))
  | start _ _ _ hs => exact .inr (.inl ⟨rfl, hs⟩)
  | final _ hf hp he => exact .inr (.inr (.inl ⟨hp, he, rfl, hf⟩))

/-- Settles O35: LDSEED and reset are the effects that write SEED. -/
theorem seedChangesOnlyByLdseedOrReset : Obligations.SeedChangesOnlyByLdseedOrReset := by
  intro s t h
  cases stepEffect_of_step h with
  | quiet | start | clrkey | feed | final => exact .inl rfl
  | ldkey b rest => exact .inl (appendKey_seed b _)
  | ldseed k imm _ hi => exact .inr (.inl ⟨k, imm, hi⟩)
  | reset _ _ _ hr => exact .inr (.inr hr)

/-- Settles O36: LDKEY, CLRKEY and reset are the effects that write the key store. -/
theorem keyStoreChangesOnlyByKeyCommandsOrReset : Obligations.KeyStoreChangesOnlyByKeyCommandsOrReset := by
  intro s t h
  cases stepEffect_of_step h with
  | quiet | start | ldseed | feed | final => exact .inl ⟨rfl, rfl, rfl⟩
  | ldkey b _ hi => exact .inr (.inl ⟨b, hi⟩)
  | clrkey _ hi => exact .inr (.inr (.inl hi))
  | reset _ _ _ hr => exact .inr (.inr (.inr hr))

/-- Settles O38: INIT and reset are the effects that write the computation context. -/
theorem contextChangesOnlyByInitOrReset : Obligations.ContextChangesOnlyByInitOrReset := by
  intro s t h
  cases stepEffect_of_step h with
  | quiet | ldseed | clrkey | feed | final => exact .inl ⟨rfl, rfl, rfl, rfl⟩
  | ldkey b _ => exact .inl ⟨appendKey_alg b _, appendKey_outlen b _, appendKey_cseed b _, appendKey_ckey b _⟩
  | start _ _ _ hs => exact .inr (.inl hs)
  | reset _ _ _ hr => exact .inr (.inr hr)

/-- Settles O39: `feed` is the one effect that appends to MSG, and its room condition keeps MLEN from wrapping. -/
theorem messageGrowsOnlyByAbsorbs : Obligations.MessageGrowsOnlyByAbsorbs := by
  intro s t h
  cases stepEffect_of_step h with
  | quiet | ldseed | clrkey | final => exact .inl ⟨rfl, rfl⟩
  | ldkey b _ => exact .inl ⟨appendKey_msg b _, appendKey_mlen b _⟩
  | feed S rest hS hp he hl => exact .inr (.inl ⟨S, hS, hp, he, rfl, feed_mlen_toNat S (takeEvent rest s) hl⟩)
  | start _ _ _ hs => exact .inr (.inr ⟨rfl, rfl, .inl hs⟩)
  | reset _ _ _ hr => exact .inr (.inr ⟨rfl, rfl, .inr hr⟩)

/-- Settles O9: the check passes and no event is taken. -/
theorem stepWithoutEventChangesNothing : Obligations.StepWithoutEventChangesNothing := by
  intro s hr hp
  rw [step, if_pos hr, hp]

/-- Settles O13: the check comes before any event. -/
theorem violatedInvariantIsAFault : Obligations.ViolatedInvariantIsAFault := by
  intro s hr
  rw [step, if_neg (by simp [hr])]

/-- Every instruction has a meaning: none faults and none is refused. -/
theorem exec_completes (i : Instr) (s : State) : ∃ t, exec i s = .next t := by
  cases i <;> exact ⟨_, rfl⟩

theorem runTransaction_completes (ht : HT) (s : State) : ∃ t, runTransaction ht s = .next t := by
  unfold runTransaction
  split
  · exact ⟨_, rfl⟩
  · exact ⟨_, rfl⟩
  · exact exec_completes _ s

/-- Settles O42: the only fault is the check's, which the invariant passes. -/
theorem stepFromInvariantCompletes : Obligations.StepFromInvariantCompletes := by
  intro s h
  rw [step, if_pos h.r67]
  split
  · exact ⟨_, rfl⟩
  · exact runTransaction_completes ..
  · exact ⟨_, rfl⟩
  · exact ⟨_, rfl⟩

/-- Settles O31: what a read returns is a function of STATUS, MLEN, SEED or DIGEST, none of which holds a key byte. -/
theorem readsDoNotRevealTheKey : Obligations.ReadsDoNotRevealTheKey := by
  intro s key ckey i hi
  simp only [List.cons_append, List.nil_append, List.mem_cons, List.mem_map] at hi
  obtain rfl | rfl | rfl | rfl | rfl | ⟨k, -, rfl⟩ := hi <;> exact ⟨_, rfl, rfl⟩

end Sys2Proof.Machine
end

section
/-! The check before each step as a proposition: the items of R67, one by one. -/

namespace Sys2Proof.Machine

/-- The check before each step, item by item. -/
theorem holdsR67_iff (s : State) : holdsR67 s = true ↔
    s.mlen.toNat = s.msg.length ∧ (s.phase = .active → fillOk s = true) ∧ (s.dlen ≠ 0 ↔ s.phase = .done) ∧
      (s.phase = .done → s.dlen = s.outlen) ∧ s.keylen.toNat ≤ 128 ∧ (s.keyovf = true → s.keylen.toNat = 128) ∧
      s.dlen.toNat ≤ 64 := by
  have hdlen : ((s.dlen != 0) == (s.phase == .done)) = true ↔ (s.dlen ≠ 0 ↔ s.phase = .done) := by
    rw [beq_iff_eq, Bool.eq_iff_iff, bne_iff_ne, beq_iff_eq]
  simp only [holdsR67, Bool.and_eq_true, hdlen]
  simp [and_assoc, imp_iff_not_or]

/-- R67 item 2, engine by engine; a CRC has no fill count. -/
theorem fillOk_iff (s : State) : fillOk s = true ↔
    (s.alg = .md5 → s.dp.md5.fill = s.msg.length % 64) ∧
    (s.alg = .sha512 → s.dp.sha512.fill = s.msg.length % 128) ∧
    (s.alg = .sha3_256 → s.dp.sha3.fill = s.msg.length % 136) ∧
    (s.alg = .blake2b →
      s.dp.blake2b.fill = blake2bFill (blake2bInputLen s.ckey.length s.msg.length) ∧
      s.dp.blake2b.t.toNat = blake2bInputLen s.ckey.length s.msg.length - s.dp.blake2b.fill) ∧
    (s.alg = .ripemd160 → s.dp.ripemd160.fill = s.msg.length % 64) ∧
    (s.alg = .tiger192 → s.dp.tiger.fill = s.msg.length % 64) ∧
    (s.alg = .murmur3_32 → s.dp.murmur3.fill = s.msg.length % 4) ∧
    (s.alg = .xxh64 → s.dp.xxh64.fill = s.msg.length % 32) := by
  cases h : s.alg with
  | blake2b => simpa [fillOk, h] using fun hfill => by rw [hfill]
  | md5 | sha512 | sha3_256 | ripemd160 | tiger192 => simp [fillOk, h]
  | crc16 | crc32 | crc64 | murmur3_32 | xxh64 => simp [fillOk, h]

theorem blake2bInputLen_eq (ckey msg : List Byte) :
    blake2bInputLen ckey.length msg.length = (if ckey = [] then 0 else 128) + msg.length := by
  cases ckey <;> simp [blake2bInputLen]

/-- R399's fill count, with the empty input apart. -/
theorem eq_blake2bFill_iff (ckey msg : List Byte) (fill : Nat) :
    fill = blake2bFill ((if ckey = [] then 0 else 128) + msg.length) ↔
      (ckey = [] → msg = [] → fill = 0) ∧
      (¬(ckey = [] ∧ msg = []) → fill = ((if ckey = [] then 0 else 128) + msg.length - 1) % 128 + 1) := by
  have hzero : (if ckey = [] then 0 else 128) + msg.length = 0 ↔ ckey = [] ∧ msg = [] := by
    cases ckey <;> simp
  by_cases h : ckey = [] ∧ msg = []
  · obtain ⟨rfl, rfl⟩ := h
    simp [blake2bFill]
  · rw [blake2bFill, if_neg (mt hzero.mp h)]
    tauto

/-- Settles O14: the items of R67, with BLAKE2b's input length and fill count written as R399 writes them. -/
theorem acceptedStatesAreThoseOfR67 : Obligations.AcceptedStatesAreThoseOfR67 := by
  intro s
  simp only [holdsR67_iff, fillOk_iff, blake2bInputLen_eq, eq_blake2bFill_iff, and_assoc]

end Sys2Proof.Machine
end

section
/-! The invariant of Safety.lean over every effect of a step: the fill counts the streaming rules leave (R265, R399) are
those of R67 item 2, and the digest FINAL loads has OUTLEN bytes (R261). -/

namespace Sys2Proof.Machine

open Sys2Proof.Safety

/-- The bytes BLAKE2b holds back are those past the blocks already compressed. -/
theorem blake2bFill_eq (N : Nat) : blake2bFill N = N - 128 * (blake2bBlocks N - 1) := by
  unfold blake2bFill blake2bBlocks
  split <;> omega

/-- T counts the bytes that are not held back (R399). -/
theorem B2bAbsorbed.t_toNat {c0 : Blake2bChain} {D : List Byte} {r : Blake2bRegs} (h : B2bAbsorbed c0 D r)
    (h0 : c0.t = 0#128) (hD : D.length < 2 ^ 128) : r.t.toNat = D.length - blake2bFill D.length := by
  have hb := (blake2bBlocks_bounds D.length).1
  have hlen : (D.take (128 * (blake2bBlocks D.length - 1))).length = 128 * (blake2bBlocks D.length - 1) := by
    rw [List.length_take, Nat.min_eq_left hb]
  have ht : r.t = BitVec.ofNat 128 (128 * (blake2bBlocks D.length - 1)) := by
    have := congrArg Blake2bChain.t h.chain
    rwa [foldBlocks_compress_t _ _ (by rw [hlen]; exact Nat.mul_mod_right ..), h0, hlen, BitVec.zero_add] at this
  rw [ht, blake2bFill_eq, Nat.sub_sub_self hb, BitVec.toNat_ofNat, Nat.mod_eq_of_lt (by omega)]

/-- A datapath that EngineInit and EngineAbsorb made from MSG has the fill count R67 item 2 asks for. -/
theorem fillOk_of_stream {s : State} {dp0 : Datapath} (hK : s.ckey.length ≤ 128) (hl : s.msg.length < 2 ^ 64)
    (hdp : s.dp = s.msg.foldl (engineAbsorb s.alg) (engineInit s.alg s.outlen.toNat s.cseed s.ckey dp0)) :
    fillOk s = true := by
  unfold fillOk
  rw [hdp]
  cases s.alg with
  | md5 =>
    rw [foldl_engineAbsorb_md5, beq_iff_eq]
    exact (eager_stream md5Compress (by decide) _ _ _).fill
  | sha512 =>
    rw [foldl_engineAbsorb_sha512, beq_iff_eq]
    exact (eager_stream sha512Compress (by decide) _ _ _).fill
  | sha3_256 =>
    rw [foldl_engineAbsorb_sha3_256, beq_iff_eq]
    exact (eager_stream sha3Absorb (by decide) _ _ _).fill
  | blake2b =>
    have h := blake2b_stream s.outlen.toNat s.ckey hK s.msg dp0.blake2b
    have hN : (blake2bKeyBlock s.ckey ++ s.msg).length = blake2bInputLen s.ckey.length s.msg.length := by
      rw [List.length_append, length_blake2bKeyBlock _ hK, blake2bInputLen_eq]
    have ht := h.t_toNat rfl (by rw [hN, blake2bInputLen]; split <;> omega)
    rw [foldl_engineAbsorb_blake2b, Bool.and_eq_true, beq_iff_eq, beq_iff_eq, ← hN]
    exact ⟨h.fill.trans (blake2bFill_eq _).symm, ht⟩
  | ripemd160 =>
    rw [foldl_engineAbsorb_ripemd160, beq_iff_eq]
    exact (eager_stream rmdCompress (by decide) _ _ _).fill
  | tiger192 =>
    rw [foldl_engineAbsorb_tiger192, beq_iff_eq]
    exact (eager_stream tigerCompress (by decide) _ _ _).fill
  | murmur3_32 =>
    rw [foldl_engineAbsorb_murmur3_32, beq_iff_eq]
    exact (eager_stream mm3Block (by decide) _ _ _).fill
  | xxh64 =>
    rw [foldl_engineAbsorb_xxh64, beq_iff_eq]
    exact (eager_stream xxhStripe (by decide) _ _ _).fill
  | crc16 | crc32 | crc64 => rfl

/-! The length of a digest (R261): the algorithm's own, or OUTLEN for BLAKE2b. -/

@[simp] theorem length_tigerSerialize (r : TigerRegs) : (tigerSerialize r).length = 24 := by simp [tigerSerialize]

@[simp] theorem length_sha3Squeeze (A : Lanes) : (sha3Squeeze A).length = 32 := by simp [sha3Squeeze]

@[simp] theorem length_mm3Finish (h : Word) (n : Nat) : (mm3Finish h n).length = 4 := by simp [mm3Finish]

@[simp] theorem length_xxhFinish (V : Vector DWord 4) (c : DWord) (n : Nat) (T : List Byte) :
    (xxhFinish V c n T).length = 8 := by simp [xxhFinish]

theorem length_digestOf_fixed {alg : Alg} (h : alg ≠ .blake2b) (n : Nat) (cseed : DWord) (ckey msg : List Byte) :
    (digestOf alg n cseed ckey msg).length = (fixedLen alg).toNat := by
  cases alg with
  | md5 => exact length_leSerialize _
  | sha512 => exact length_beSerialize _
  | sha3_256 => exact length_sha3Squeeze _
  | blake2b => exact absurd rfl h
  | ripemd160 => exact length_leSerialize _
  | tiger192 => exact length_tigerSerialize _
  | crc16 | crc32 | crc64 => exact length_beBytes _
  | murmur3_32 => exact length_mm3Finish ..
  | xxh64 => exact length_xxhFinish ..

theorem length_digestOf_blake2b {n : Nat} (h : n ≤ 64) (cseed : DWord) (ckey msg : List Byte) :
    (digestOf .blake2b n cseed ckey msg).length = n := by
  simp [digestOf, blake2bDigest, h]

theorem length_digestOf {alg : Alg} {outlen : BitVec 7} (h : outlenLegal alg outlen) (cseed : DWord)
    (ckey msg : List Byte) : (digestOf alg outlen.toNat cseed ckey msg).length = outlen.toNat := by
  unfold outlenLegal at h
  split at h
  · next hb => rw [hb, length_digestOf_blake2b h.2]
  · next hb => rw [h, length_digestOf_fixed hb]

/-- A legal digest length is 1 to 64. -/
theorem outlenLegal_bounds {alg : Alg} {outlen : BitVec 7} (h : outlenLegal alg outlen) :
    1 ≤ outlen.toNat ∧ outlen.toNat ≤ 64 := by
  unfold outlenLegal at h
  split at h
  · exact h
  · subst h
    cases alg <;> decide

/-- INIT chooses a legal digest length (R133). -/
theorem outlenLegal_initOutlen {alg : Alg} {ol : BitVec 7} (h : initLegal alg ol = true) :
    outlenLegal alg (initOutlen alg ol) := by
  simp only [initLegal, Bool.and_eq_true, Bool.or_eq_true, decide_eq_true_eq] at h
  obtain ⟨hle, hor⟩ := h
  unfold outlenLegal initOutlen
  by_cases h0 : ol = 0
  · subst h0; cases alg <;> decide
  · have hb := hor.resolve_left h0
    rw [if_pos h0, if_pos hb]
    bv_omega

/-- No part of the invariant speaks of ERR, SEED or the model's own fields. -/
theorem stateInv_of_unread {s : State} (h : StateInv s) (err : Err) (seed : DWord) (pending : List HostEvent)
    (response : Response) (freeCount : Nat) :
    StateInv { s with err := err, seed := seed, pending := pending, response := response, freeCount := freeCount } :=
  ⟨h.r67, h.idle, h.outlen, h.ckey, h.key, h.digest, h.stream⟩

theorem digest_eq_zeros {s : State} (h : StateInv s) (hp : s.phase ≠ .done) : s.digest.toList = zeros 64 :=
  h.digest.trans (if_neg hp)

theorem stateInv_reset : StateInv State.reset where
  r67 := by decide
  idle _ := ⟨rfl, rfl, rfl, rfl, rfl⟩
  outlen h := absurd rfl h
  ckey := ⟨Nat.zero_le _, fun _ => rfl⟩
  key i _ hi := by simp [State.reset, Vector.getD, hi]
  digest := rfl
  stream h := nomatch h

/-- The key store's part of the invariant (R61, R67 item 4), and that nothing else reads the key store. -/
theorem stateInv_of_keyStore {s : State} (h : StateInv s) (key : Vector Byte 128) (keylen : BitVec 8) (keyovf : Bool)
    (hlen : keylen.toNat ≤ 128) (hovf : keyovf = true → keylen.toNat = 128)
    (hkey : ∀ i, keylen.toNat ≤ i → i < 128 → key.getD i 0 = 0) :
    StateInv { s with key := key, keylen := keylen, keyovf := keyovf } := by
  obtain ⟨hmlen, hfill, hdlen, hout, -, -, h64⟩ := (holdsR67_iff s).mp h.r67
  exact ⟨(holdsR67_iff _).mpr ⟨hmlen, hfill, hdlen, hout, hlen, hovf, h64⟩, h.idle, h.outlen, h.ckey, hkey, h.digest,
    h.stream⟩

theorem stateInv_clearKey {s : State} (h : StateInv s) : StateInv (clearKey s) :=
  stateInv_of_keyStore h _ 0 false (by decide) (by decide) fun i _ hi => by simp [Vector.getD, hi]

theorem stateInv_appendKey {s : State} (h : StateInv s) (b : Byte) : StateInv (appendKey b s) := by
  obtain ⟨-, -, -, -, hlen, hovf, -⟩ := (holdsR67_iff s).mp h.r67
  obtain ⟨hroom, he⟩ | ⟨hfull, he⟩ := appendKey_cases b s <;> rw [he]
  · have hsucc : (s.keylen + 1).toNat = s.keylen.toNat + 1 := by bv_omega
    refine stateInv_of_keyStore h _ _ _ (by omega) (fun ho => absurd (hovf ho) (by omega)) fun i hi h128 => ?_
    have hne : s.keylen.toNat ≠ i := by omega
    simpa [Vector.getD, h128, hne, Vector.getElem_setIfInBounds] using h.key i (by omega) h128
  · exact stateInv_of_keyStore h s.key s.keylen true hlen (fun _ => by omega) h.key

theorem stateInv_startComputation {s : State} (h : StateInv s) {alg : Alg} {ol : BitVec 7}
    (hl : initLegal alg ol = true) : StateInv (startComputation alg ol s) := by
  obtain ⟨-, -, -, -, hlen, hovf, -⟩ := (holdsR67_iff s).mp h.r67
  have hckey : (initKey alg s).length ≤ 128 := by
    unfold initKey
    split
    · simp [keyBytes]
    · exact Nat.zero_le _
  have hfill : fillOk (startComputation alg ol s) = true :=
    fillOk_of_stream (dp0 := s.dp) hckey (Nat.two_pow_pos 64) rfl
  exact {
    r67 := (holdsR67_iff _).mpr ⟨rfl, fun _ => hfill, by simp, nofun, hlen, hovf, by simp⟩
    idle := nofun
    outlen := fun _ => outlenLegal_initOutlen hl
    ckey := ⟨hckey, fun ha => if_neg ha⟩
    key := h.key
    digest := rfl
    stream := fun _ => ⟨s.dp, rfl⟩ }

theorem stateInv_feed {s : State} (h : StateInv s) {S : List Byte} (hp : s.phase = .active)
    (hroom : s.mlen.toNat + S.length ≤ 2 ^ 64 - 1) : StateInv (feed S s) := by
  obtain ⟨hmlen, -, hdlen, hout, hlen, hovf, h64⟩ := (holdsR67_iff s).mp h.r67
  obtain ⟨dp0, hdp⟩ := h.stream hp
  have hmsg : (s.msg ++ S).length = s.mlen.toNat + S.length := by rw [List.length_append, hmlen]
  have hstream : (feed S s).dp = (s.msg ++ S).foldl (engineAbsorb s.alg)
      (engineInit s.alg s.outlen.toNat s.cseed s.ckey dp0) := by
    rw [feed_dp, hdp, List.foldl_append]
  have hfill : fillOk (feed S s) = true := fillOk_of_stream h.ckey.1 (by rw [feed_msg, hmsg]; omega) hstream
  exact {
    r67 := (holdsR67_iff _).mpr
      ⟨(feed_mlen_toNat S s hroom).trans hmsg.symm, fun _ => hfill, hdlen, hout, hlen, hovf, h64⟩
    idle := fun hi => absurd (hp.symm.trans hi) nofun
    outlen := h.outlen
    ckey := h.ckey
    key := h.key
    digest := by
      rw [feed_phase, hp, feed_digest, digest_eq_zeros h (by rw [hp]; nofun)]
      exact (if_neg nofun).symm
    stream := fun _ => ⟨dp0, hstream⟩ }

theorem stateInv_loadDigest {s : State} (h : StateInv s) (hp : s.phase = .active) :
    StateInv (loadDigest (digestOf s.alg s.outlen.toNat s.cseed s.ckey s.msg) s) := by
  obtain ⟨hmlen, -, -, -, hlen, hovf, -⟩ := (holdsR67_iff s).mp h.r67
  have hlegal : outlenLegal s.alg s.outlen := h.outlen (by rw [hp]; nofun)
  obtain ⟨hpos, h64⟩ := outlenLegal_bounds hlegal
  have hne : s.outlen ≠ 0 := by rintro h0; rw [h0] at hpos; exact absurd hpos (by decide)
  have hD := length_digestOf hlegal s.cseed s.ckey s.msg
  exact {
    r67 := (holdsR67_iff _).mpr ⟨hmlen, nofun, iff_of_true hne rfl, fun _ => rfl, hlen, hovf, h64⟩
    idle := nofun
    outlen := fun _ => hlegal
    ckey := h.ckey
    key := h.key
    digest := (toList_toBuffer 64 _ (by omega)).trans (by rw [hD]; rfl)
    stream := nofun }

/-- Settles O41: each effect of a step keeps the invariant. -/
theorem everyStepKeepsTheInvariant : Obligations.EveryStepKeepsTheInvariant := by
  intro s t h hstep
  have htake (rest : List HostEvent) : StateInv (takeEvent rest s) :=
    stateInv_of_unread h s.err s.seed rest .nothing s.freeCount
  cases stepEffect_of_step hstep with
  | quiet err pending response => exact stateInv_of_unread h err s.seed pending response s.freeCount
  | reset rest response freeCount => exact stateInv_of_unread stateInv_reset .none 0 rest response freeCount
  | start alg ol rest _ hl => exact stateInv_startComputation (htake rest) hl
  | ldseed k imm rest => exact stateInv_of_unread h s.err (setSeedChunk s.seed k imm) rest .nothing s.freeCount
  | ldkey b rest => exact stateInv_appendKey (htake rest) b
  | clrkey rest => exact stateInv_clearKey (htake rest)
  | feed S rest _ hp _ hroom => exact stateInv_feed (htake rest) hp hroom
  | final rest _ hp => exact stateInv_loadDigest (htake rest) hp

end Sys2Proof.Machine
end

section
/-! The encoder and the decoder agree (R130 to R136 of spec/30_encoding.md): the fields of each format of R131 as slices
of the command word, the word as the concatenation of its slices, and one equation of the decoder per opcode. -/

namespace Sys2Proof

open BitVec (extractLsb'_append_eq_left extractLsb'_append_eq_right extractLsb'_append_eq_of_le
  extractLsb'_append_extractLsb'_eq_extractLsb' extractLsb'_eq_self)

@[simp] theorem decode_mkHT (we : Bool) (widx : BitVec 5) (w : Word) :
    decode (mkHT we widx w) = if we then decodeWrite widx w else decodeRead widx := by
  rw [decode, htWe_mkHT, htWidx_mkHT, htWdata_mkHT]

@[simp] theorem decode_cmdHT (w : Word) : decode (cmdHT w) = decodeCmd w := decode_mkHT ..

@[simp] theorem decode_readHT (widx : BitVec 5) : decode (readHT widx) = decodeRead widx := decode_mkHT ..

/-! The fields of a word put together in each format (R131). -/

theorem slices_formatI (op : Byte) (r : BitVec 9) (ol : BitVec 7) (q a : BitVec 4) :
    (op ++ r ++ ol ++ q ++ a).extractLsb' 24 8 = op ∧ (op ++ r ++ ol ++ q ++ a).extractLsb' 15 9 = r ∧
      (op ++ r ++ ol ++ q ++ a).extractLsb' 8 7 = ol ∧ (op ++ r ++ ol ++ q ++ a).extractLsb' 4 4 = q ∧
      (op ++ r ++ ol ++ q ++ a).extractLsb' 0 4 = a := by
  refine ⟨?_, ?_, ?_, ?_, extractLsb'_append_eq_right⟩ <;> rw [extractLsb'_append_eq_of_le (by decide)]
  · rw [extractLsb'_append_eq_of_le (by decide), extractLsb'_append_eq_of_le (by decide), extractLsb'_append_eq_left]
  · rw [extractLsb'_append_eq_of_le (by decide), extractLsb'_append_eq_of_le (by decide), extractLsb'_append_eq_right]
  · rw [extractLsb'_append_eq_of_le (by decide), extractLsb'_append_eq_right]
  · rw [extractLsb'_append_eq_right]

theorem slices_formatS (op : Byte) (r : BitVec 6) (k : BitVec 2) (imm16 : BitVec 16) :
    (op ++ r ++ k ++ imm16).extractLsb' 24 8 = op ∧ (op ++ r ++ k ++ imm16).extractLsb' 18 6 = r ∧
      (op ++ r ++ k ++ imm16).extractLsb' 16 2 = k ∧ (op ++ r ++ k ++ imm16).extractLsb' 0 16 = imm16 := by
  refine ⟨?_, ?_, ?_, extractLsb'_append_eq_right⟩ <;> rw [extractLsb'_append_eq_of_le (by decide)]
  · rw [extractLsb'_append_eq_of_le (by decide), extractLsb'_append_eq_left]
  · rw [extractLsb'_append_eq_of_le (by decide), extractLsb'_append_eq_right]
  · rw [extractLsb'_append_eq_right]

theorem slices_formatB1 (op : Byte) (r : BitVec 16) (b0 : Byte) :
    (op ++ r ++ b0).extractLsb' 24 8 = op ∧ (op ++ r ++ b0).extractLsb' 8 16 = r ∧
      (op ++ r ++ b0).extractLsb' 0 8 = b0 := by
  refine ⟨?_, ?_, extractLsb'_append_eq_right⟩ <;> rw [extractLsb'_append_eq_of_le (by decide)]
  · rw [extractLsb'_append_eq_left]
  · rw [extractLsb'_append_eq_right]

/-- Formats B2 and B3, and a DIN word: four bytes. -/
theorem slices_bytes (b3 b2 b1 b0 : Byte) :
    (b3 ++ b2 ++ b1 ++ b0).extractLsb' 24 8 = b3 ∧ (b3 ++ b2 ++ b1 ++ b0).extractLsb' 16 8 = b2 ∧
      (b3 ++ b2 ++ b1 ++ b0).extractLsb' 8 8 = b1 ∧ (b3 ++ b2 ++ b1 ++ b0).extractLsb' 0 8 = b0 := by
  refine ⟨?_, ?_, ?_, extractLsb'_append_eq_right⟩ <;> rw [extractLsb'_append_eq_of_le (by decide)]
  · rw [extractLsb'_append_eq_of_le (by decide), extractLsb'_append_eq_left]
  · rw [extractLsb'_append_eq_of_le (by decide), extractLsb'_append_eq_right]
  · rw [extractLsb'_append_eq_right]

/-! A word is the concatenation of its slices, in each format. -/

theorem join_formatN (w : Word) : w.extractLsb' 24 8 ++ w.extractLsb' 0 24 = w :=
  BitVec.extractLsb'_append_extractLsb'

theorem join_formatI (w : Word) :
    w.extractLsb' 24 8 ++ w.extractLsb' 15 9 ++ w.extractLsb' 8 7 ++ w.extractLsb' 4 4 ++ w.extractLsb' 0 4 = w := by
  iterate 4 rw [extractLsb'_append_extractLsb'_eq_extractLsb' (by rfl)]
  exact extractLsb'_eq_self

theorem join_formatS (w : Word) :
    w.extractLsb' 24 8 ++ w.extractLsb' 18 6 ++ w.extractLsb' 16 2 ++ w.extractLsb' 0 16 = w := by
  iterate 3 rw [extractLsb'_append_extractLsb'_eq_extractLsb' (by rfl)]
  exact extractLsb'_eq_self

theorem join_formatB1 (w : Word) : w.extractLsb' 24 8 ++ w.extractLsb' 8 16 ++ w.extractLsb' 0 8 = w := by
  iterate 2 rw [extractLsb'_append_extractLsb'_eq_extractLsb' (by rfl)]
  exact extractLsb'_eq_self

theorem join_bytes (w : Word) :
    w.extractLsb' 24 8 ++ w.extractLsb' 16 8 ++ w.extractLsb' 8 8 ++ w.extractLsb' 0 8 = w := by
  iterate 3 rw [extractLsb'_append_extractLsb'_eq_extractLsb' (by rfl)]
  exact extractLsb'_eq_self

/-! The decoder on a command word, by its opcode (R134, R136). -/

section
variable {w : Word}

theorem decodeCmd_nop (h : w.extractLsb' 24 8 = 0#8) :
    decodeCmd w = if w.extractLsb' 0 24 = 0#24 then .instr .nop else .illegal := by rw [decodeCmd, h]; rfl

theorem decodeCmd_init (h : w.extractLsb' 24 8 = 1#8) : decodeCmd w = decodeInit w := by rw [decodeCmd, h]; rfl

theorem decodeCmd_ldseed (h : w.extractLsb' 24 8 = 2#8) :
    decodeCmd w = if w.extractLsb' 18 6 = 0#6 then .instr (.ldseed (w.extractLsb' 16 2) (w.extractLsb' 0 16))
      else .illegal := by rw [decodeCmd, h]; rfl

theorem decodeCmd_ldkey (h : w.extractLsb' 24 8 = 3#8) :
    decodeCmd w = if w.extractLsb' 8 16 = 0#16 then .instr (.ldkey (w.extractLsb' 0 8)) else .illegal := by
  rw [decodeCmd, h]; rfl

theorem decodeCmd_clrkey (h : w.extractLsb' 24 8 = 4#8) :
    decodeCmd w = if w.extractLsb' 0 24 = 0#24 then .instr .clrkey else .illegal := by rw [decodeCmd, h]; rfl

theorem decodeCmd_absorb1 (h : w.extractLsb' 24 8 = 5#8) :
    decodeCmd w = if w.extractLsb' 8 16 = 0#16 then .instr (.absorb1 (w.extractLsb' 0 8)) else .illegal := by
  rw [decodeCmd, h]; rfl

theorem decodeCmd_absorb2 (h : w.extractLsb' 24 8 = 6#8) :
    decodeCmd w = if w.extractLsb' 16 8 = 0#8 then .instr (.absorb2 (w.extractLsb' 0 8) (w.extractLsb' 8 8))
      else .illegal := by rw [decodeCmd, h]; rfl

theorem decodeCmd_absorb3 (h : w.extractLsb' 24 8 = 7#8) :
    decodeCmd w = .instr (.absorb3 (w.extractLsb' 0 8) (w.extractLsb' 8 8) (w.extractLsb' 16 8)) := by
  rw [decodeCmd, h]; rfl

theorem decodeCmd_final (h : w.extractLsb' 24 8 = 8#8) :
    decodeCmd w = if w.extractLsb' 0 24 = 0#24 then .instr .final else .illegal := by rw [decodeCmd, h]; rfl

theorem decodeCmd_reserved (h : 9#8 ≤ w.extractLsb' 24 8) : decodeCmd w = .illegal := by
  have hop : 9 ≤ (w.extractLsb' 24 8).toNat := h
  unfold decodeCmd
  split
  case h_10 => rfl
  all_goals omega

end

theorem opcode_cases (op : Byte) :
    op = 0#8 ∨ op = 1#8 ∨ op = 2#8 ∨ op = 3#8 ∨ op = 4#8 ∨ op = 5#8 ∨ op = 6#8 ∨ op = 7#8 ∨ op = 8#8 ∨ 9#8 ≤ op := by
  bv_omega

/-- Format I: what INIT's operand pair decodes to. -/
theorem decodeInit_legal {w : Word} {alg : Alg} (h15 : w.extractLsb' 15 9 = 0#9) (h4 : w.extractLsb' 4 4 = 0#4)
    (ha : w.extractLsb' 0 4 = algId alg) (hl : initLegal alg (w.extractLsb' 8 7) = true) :
    decodeInit w = .instr (.init alg (w.extractLsb' 8 7)) := by
  rw [decodeInit, if_neg (by simp [h15, h4]), ha, algOfId_algId]
  exact if_pos hl

/-- Settles O1: each field of R131's formats is read back from the word it was put in. -/
theorem decodeOfEncodeIsIdentity : Obligations.DecodeOfEncodeIsIdentity := by
  intro i hi
  cases i with
  | nop | clrkey | final => rfl
  | init alg ol =>
    obtain ⟨hop, h15, hol, h4, ha⟩ := slices_formatI 0x01#8 0#9 ol 0#4 (algId alg)
    rw [encode, decode_cmdHT, decodeCmd_init hop, decodeInit_legal h15 h4 ha (by rw [hol]; exact hi), hol]
  | ldseed k imm16 =>
    obtain ⟨hop, hr, hk, himm⟩ := slices_formatS 0x02#8 0#6 k imm16
    rw [encode, decode_cmdHT, decodeCmd_ldseed hop, if_pos hr, hk, himm]
  | ldkey b0 =>
    obtain ⟨hop, hr, h0⟩ := slices_formatB1 0x03#8 0#16 b0
    rw [encode, decode_cmdHT, decodeCmd_ldkey hop, if_pos hr, h0]
  | absorb1 b0 =>
    obtain ⟨hop, hr, h0⟩ := slices_formatB1 0x05#8 0#16 b0
    rw [encode, decode_cmdHT, decodeCmd_absorb1 hop, if_pos hr, h0]
  | absorb2 b0 b1 =>
    obtain ⟨hop, hr, h1, h0⟩ := slices_bytes 0x06#8 0#8 b1 b0
    rw [encode, decode_cmdHT, decodeCmd_absorb2 hop, if_pos hr, h1, h0]
  | absorb3 b0 b1 b2 =>
    obtain ⟨hop, h2, h1, h0⟩ := slices_bytes 0x07#8 b2 b1 b0
    rw [encode, decode_cmdHT, decodeCmd_absorb3 hop, h2, h1, h0]
  | wrDin w => exact decode_mkHT ..
  | rdStatus | rdMlen0 | rdMlen1 | rdSeed0 | rdSeed1 => rfl
  | rdDout k =>
    rw [encode, decode_readHT]
    revert k
    decide

end Sys2Proof
end

section
/-! What the decoder answers, read backwards (R130, R135, R136): an instruction is answered only for its own record, and
the illegal words are those R135 lists. -/

namespace Sys2Proof

variable {w : Word} {i j : Instr}

/-- A reserved field is checked before the instruction is answered. -/
theorem guard_eq_instr {c : Prop} [Decidable c] (h : (if c then Decoded.instr j else .illegal) = .instr i) :
    c ∧ j = i := by
  split at h
  · exact ⟨‹_›, Decoded.instr.inj h⟩
  · cases h

theorem algOfId_eq_none_iff : ∀ a : BitVec 4, algOfId a = none ↔ 11#4 ≤ a := by decide

theorem decodeInit_eq_instr (h : decodeInit w = .instr i) :
    ∃ alg, i = .init alg (w.extractLsb' 8 7) ∧ w.extractLsb' 15 9 = 0#9 ∧ w.extractLsb' 4 4 = 0#4 ∧
      algId alg = w.extractLsb' 0 4 ∧ initLegal alg (w.extractLsb' 8 7) = true := by
  unfold decodeInit at h
  split at h
  · cases h
  · next hr =>
    obtain ⟨h15, h4⟩ := not_or.mp hr
    split at h
    · cases h
    · next alg ha =>
      obtain ⟨hl, rfl⟩ := guard_eq_instr h
      exact ⟨alg, rfl, not_not.mp h15, not_not.mp h4, algId_of_algOfId _ _ ha, hl⟩

/-- INIT's operand pair is illegal for too long a digest, or any length where the algorithm's is fixed (R135). -/
theorem not_initLegal_iff (alg : Alg) (ol : BitVec 7) :
    ¬initLegal alg ol = true ↔ 65#7 ≤ ol ∨ (ol ≠ 0#7 ∧ algId alg ≠ 3#4) := by
  have hle : ol ≤ 64#7 ↔ ¬65#7 ≤ ol := by bv_omega
  have hid : alg = .blake2b ↔ algId alg = 3#4 := by cases alg <;> decide
  simp [initLegal, hle, hid, imp_iff_not_or]

theorem decodeInit_eq_illegal_iff : decodeInit w = .illegal ↔
    w.extractLsb' 15 9 ≠ 0#9 ∨ w.extractLsb' 4 4 ≠ 0#4 ∨ 11#4 ≤ w.extractLsb' 0 4 ∨ 65#7 ≤ w.extractLsb' 8 7 ∨
      (w.extractLsb' 8 7 ≠ 0#7 ∧ w.extractLsb' 0 4 ≠ 3#4) := by
  unfold decodeInit
  split
  · next hr => exact iff_of_true rfl (hr.elim .inl fun h4 => .inr (.inl h4))
  · next hr =>
    obtain ⟨h15, h4⟩ := not_or.mp hr
    rw [or_iff_right h15, or_iff_right h4, ← algOfId_eq_none_iff]
    split
    · next ha => exact iff_of_true rfl (.inl ha)
    · next alg ha =>
      simp only [ite_eq_right_iff, reduceCtorEq, imp_false, not_initLegal_iff, algId_of_algOfId _ _ ha, ha, false_or]

/-- A command word is answered only with an instruction that encodes to it. -/
theorem decodeCmd_eq_instr (h : decodeCmd w = .instr i) : i.wellFormed = true ∧ encode i = cmdHT w := by
  obtain hop | hop | hop | hop | hop | hop | hop | hop | hop | hop := opcode_cases (w.extractLsb' 24 8)
  · obtain ⟨hr, rfl⟩ := guard_eq_instr ((decodeCmd_nop hop).symm.trans h)
    exact ⟨rfl, by rw [encode, ← hop, ← hr, join_formatN]⟩
  · obtain ⟨alg, rfl, h15, h4, ha, hl⟩ := decodeInit_eq_instr ((decodeCmd_init hop).symm.trans h)
    exact ⟨hl, by rw [encode, ← hop, ← h15, ← h4, ha, join_formatI]⟩
  · obtain ⟨hr, rfl⟩ := guard_eq_instr ((decodeCmd_ldseed hop).symm.trans h)
    exact ⟨rfl, by rw [encode, ← hop, ← hr, join_formatS]⟩
  · obtain ⟨hr, rfl⟩ := guard_eq_instr ((decodeCmd_ldkey hop).symm.trans h)
    exact ⟨rfl, by rw [encode, ← hop, ← hr, join_formatB1]⟩
  · obtain ⟨hr, rfl⟩ := guard_eq_instr ((decodeCmd_clrkey hop).symm.trans h)
    exact ⟨rfl, by rw [encode, ← hop, ← hr, join_formatN]⟩
  · obtain ⟨hr, rfl⟩ := guard_eq_instr ((decodeCmd_absorb1 hop).symm.trans h)
    exact ⟨rfl, by rw [encode, ← hop, ← hr, join_formatB1]⟩
  · obtain ⟨hr, rfl⟩ := guard_eq_instr ((decodeCmd_absorb2 hop).symm.trans h)
    exact ⟨rfl, by rw [encode, ← hop, ← hr, join_bytes]⟩
  · obtain rfl := Decoded.instr.inj ((decodeCmd_absorb3 hop).symm.trans h)
    exact ⟨rfl, by rw [encode, ← hop, join_bytes]⟩
  · obtain ⟨hr, rfl⟩ := guard_eq_instr ((decodeCmd_final hop).symm.trans h)
    exact ⟨rfl, by rw [encode, ← hop, ← hr, join_formatN]⟩
  · exact nomatch (decodeCmd_reserved hop).symm.trans h

theorem decodeWrite_eq_instr {widx : BitVec 5} (h : decodeWrite widx w = .instr i) :
    i.wellFormed = true ∧ encode i = mkHT true widx w := by
  unfold decodeWrite at h
  split at h
  · next hw =>
    obtain rfl : widx = 0#5 := BitVec.eq_of_toNat_eq hw
    exact decodeCmd_eq_instr h
  · next hw =>
    obtain rfl : widx = 2#5 := BitVec.eq_of_toNat_eq hw
    cases h
    exact ⟨rfl, rfl⟩
  · cases h

/-- A DOUT slot is the bit 1 and the word's index (R134). -/
theorem dout_slot : ∀ widx : BitVec 5, 16#5 ≤ widx → 1#1 ++ widx.extractLsb' 0 4 = widx := by decide

theorem decodeRead_eq_instr {widx : BitVec 5} (h : decodeRead widx = .instr i) :
    i.wellFormed = true ∧ encode i = readHT widx := by
  unfold decodeRead at h
  split at h
  · next hd =>
    cases h
    exact ⟨rfl, by rw [encode, dout_slot widx hd]⟩
  · split at h
    case h_6 => cases h
    all_goals
      next hw =>
        cases h
        exact ⟨rfl, congrArg readHT (BitVec.eq_of_toNat_eq hw).symm⟩

/-- Settles O2: a write's record has only the fields its instruction encodes, a read's has WDATA besides. -/
theorem decodedInstructionIsCanonical : Obligations.DecodedInstructionIsCanonical := by
  intro ht i h
  unfold decode at h
  split at h
  · next hwe =>
    obtain ⟨hwf, he⟩ := decodeWrite_eq_instr h
    have hht : encode i = ht := by rw [he, ← hwe, mkHT_fields]
    exact ⟨hwf, congrArg htWe hht, congrArg htWidx hht, fun _ => hht⟩
  · next hwe =>
    obtain ⟨hwf, he⟩ := decodeRead_eq_instr h
    rw [he, readHT, htWe_mkHT, htWidx_mkHT]
    exact ⟨hwf, (Bool.eq_false_iff.mpr hwe).symm, rfl, fun hw => absurd hw hwe⟩

/-- R135's list, on the command word. -/
theorem decodeCmd_eq_illegal_iff : decodeCmd w = .illegal ↔
    (9#8 ≤ w.extractLsb' 24 8) ∨
    ((w.extractLsb' 24 8 = 0#8 ∨ w.extractLsb' 24 8 = 4#8 ∨ w.extractLsb' 24 8 = 8#8) ∧ w.extractLsb' 0 24 ≠ 0#24) ∨
    (w.extractLsb' 24 8 = 1#8 ∧
      (w.extractLsb' 15 9 ≠ 0#9 ∨ w.extractLsb' 4 4 ≠ 0#4 ∨ 11#4 ≤ w.extractLsb' 0 4 ∨ 65#7 ≤ w.extractLsb' 8 7 ∨
        (w.extractLsb' 8 7 ≠ 0#7 ∧ w.extractLsb' 0 4 ≠ 3#4))) ∨
    (w.extractLsb' 24 8 = 2#8 ∧ w.extractLsb' 18 6 ≠ 0#6) ∨
    ((w.extractLsb' 24 8 = 3#8 ∨ w.extractLsb' 24 8 = 5#8) ∧ w.extractLsb' 8 16 ≠ 0#16) ∨
    (w.extractLsb' 24 8 = 6#8 ∧ w.extractLsb' 16 8 ≠ 0#8) := by
  obtain hop | hop | hop | hop | hop | hop | hop | hop | hop | hop := opcode_cases (w.extractLsb' 24 8)
  · simp [decodeCmd_nop hop, hop]
  · rw [decodeCmd_init hop, decodeInit_eq_illegal_iff]
    simp [hop]
  · simp [decodeCmd_ldseed hop, hop]
  · simp [decodeCmd_ldkey hop, hop]
  · simp [decodeCmd_clrkey hop, hop]
  · simp [decodeCmd_absorb1 hop, hop]
  · simp [decodeCmd_absorb2 hop, hop]
  · simp [decodeCmd_absorb3 hop, hop]
  · simp [decodeCmd_final hop, hop]
  · exact iff_of_true (decodeCmd_reserved hop) (.inl hop)

theorem decodeRead_ne_illegal (widx : BitVec 5) : decodeRead widx ≠ .illegal := by
  unfold decodeRead
  split
  · nofun
  · split <;> nofun

theorem decodeWrite_eq_illegal_iff {widx : BitVec 5} :
    decodeWrite widx w = .illegal ↔ widx = 0#5 ∧ decodeCmd w = .illegal := by
  unfold decodeWrite
  split
  · next h0 => exact (and_iff_right (BitVec.eq_of_toNat_eq h0)).symm
  · next h2 => exact iff_of_false nofun fun h => nomatch h2.symm.trans (congrArg BitVec.toNat h.1)
  · next h0 _ => exact iff_of_false nofun fun h => h0 (congrArg BitVec.toNat h.1)

/-- Only a write to CMD can be an illegal command. -/
theorem decode_eq_illegal_iff (ht : HT) :
    decode ht = .illegal ↔ htWe ht = true ∧ htWidx ht = 0#5 ∧ decodeCmd (htWdata ht) = .illegal := by
  unfold decode
  split
  · next hwe => rw [decodeWrite_eq_illegal_iff, and_iff_right hwe]
  · next hwe => exact iff_of_false (decodeRead_ne_illegal _) fun h => hwe h.1

/-- A field of WDATA is the same slice of the record. -/
theorem extractLsb'_htWdata (ht : HT) {start len : Nat} (h : start + len ≤ 32) :
    (htWdata ht).extractLsb' start len = ht.extractLsb' start len := BitVec.extractLsb'_extractLsb'_of_le h

/-- Settles O3: R135's list on WDATA, where each field is a slice of the record. -/
theorem illegalRecordsAreExactlyTheListed : Obligations.IllegalRecordsAreExactlyTheListed := by
  intro ht
  rw [decode_eq_illegal_iff, decodeCmd_eq_illegal_iff]
  simp only [extractLsb'_htWdata, Nat.reduceAdd, Nat.reduceLeDiff]
  rfl

end Sys2Proof
end

section
/-! Runs of instructions the host issues, one transaction each (R139, R200), and what SETSEED and SETKEY leave. -/

namespace Sys2Proof.Machine

open Sys2Proof.Safety

/-- A step on an issued instruction is its meaning (R200), since its record decodes to it. -/
theorem step_issues_cons {s : State} {i : Instr} (h : StateInv s) (hi : i.wellFormed = true) (is : List Instr) :
    step (issues s (i :: is)) = exec i (issues (takeEvent [] s) is) := by
  have hd : decode (encode i) = .instr i := decodeOfEncodeIsIdentity i hi
  have hr : holdsR67 (issues s (i :: is)) = true := h.r67
  rw [step, if_pos hr]
  simp only [issues, List.map_cons, runTransaction, hd]
  rfl

theorem runsTo_nil {s t : State} (h : { s with pending := [] } = t) : runsTo s [] t := congrArg _ h

theorem runsTo_cons {s u t : State} {i : Instr} {is : List Instr} (h : StateInv s) (hi : i.wellFormed = true)
    (hexec : exec i (issues (takeEvent [] s) is) = .next (issues u is)) (hrest : runsTo u is t) :
    runsTo s (i :: is) t := by
  rw [runsTo, List.length_cons, steps, step_issues_cons h hi, hexec]
  exact hrest

theorem stateInv_takeEvent {s : State} (h : StateInv s) (rest : List HostEvent) : StateInv (takeEvent rest s) :=
  stateInv_of_unread h s.err s.seed rest .nothing s.freeCount

/-! SETSEED. -/

/-- LDSEED's chunk, bit by bit (R204). -/
theorem getLsbD_setSeedChunk (seed : DWord) (k : BitVec 2) (imm16 : BitVec 16) {j : Nat} (hj : j < 64) :
    (setSeedChunk seed k imm16).getLsbD j =
      if 16 * k.toNat ≤ j ∧ j < 16 * k.toNat + 16 then imm16.getLsbD (j - 16 * k.toNat) else seed.getLsbD j := by
  have hmask : ∀ m < 64, (0xFFFF#64).getLsbD m = decide (m < 16) := by decide
  simp only [setSeedChunk, BitVec.getLsbD_or, BitVec.getLsbD_and, BitVec.getLsbD_not, BitVec.getLsbD_shiftLeft,
    BitVec.getLsbD_setWidth, hmask (j - 16 * k.toNat) (by omega), hj]
  by_cases hlo : j < 16 * k.toNat
  · simp [hlo, Nat.not_le.mpr hlo]
  · by_cases hhi : j < 16 * k.toNat + 16
    · simp [hlo, hhi, Nat.not_lt.mp hlo, show j - 16 * k.toNat < 16 by omega, show j - 16 * k.toNat < 64 by omega]
    · simp [hlo, hhi, show ¬j - 16 * k.toNat < 16 by omega, BitVec.getLsbD_of_ge imm16 (j - 16 * k.toNat) (by omega)]

/-- The four chunks of a value, loaded in turn, are the value. -/
theorem setSeedChunk_chunks (seed v : DWord) :
    setSeedChunk (setSeedChunk (setSeedChunk (setSeedChunk seed 0 (v.extractLsb' 0 16)) 1 (v.extractLsb' 16 16)) 2
      (v.extractLsb' 32 16)) 3 (v.extractLsb' 48 16) = v := by
  apply BitVec.eq_of_getLsbD_eq
  intro j hj
  simp only [getLsbD_setSeedChunk _ _ _ hj, BitVec.getLsbD_extractLsb', BitVec.ofNat_eq_ofNat, BitVec.reduceToNat,
    Nat.reduceMul, Nat.reduceAdd]
  split_ifs
  case neg => omega
  all_goals rw [decide_eq_true (by omega), Bool.true_and, Nat.add_sub_cancel' (by omega)]

/-- A run that begins with LDSEED goes on from the state with the chunk in place, which meets the invariant again. -/
theorem runsTo_ldseed {s t : State} {k : BitVec 2} {imm16 : BitVec 16} {is : List Instr} (h : StateInv s)
    (hrest : StateInv { takeEvent [] s with seed := setSeedChunk s.seed k imm16 } →
      runsTo { takeEvent [] s with seed := setSeedChunk s.seed k imm16 } is t) :
    runsTo s (.ldseed k imm16 :: is) t :=
  runsTo_cons h rfl rfl (hrest (stateInv_of_unread h s.err _ [] .nothing s.freeCount))

/-- Settles O55: four LDSEEDs, whose chunks together are the whole SEED. -/
theorem setSeedSequenceLoadsTheSeed : Obligations.SetSeedSequenceLoadsTheSeed := by
  intro s v h
  refine runsTo_ldseed h fun h => runsTo_ldseed h fun h => runsTo_ldseed h fun h => runsTo_ldseed h fun _ => ?_
  refine runsTo_nil ?_
  simp only [setSeedChunk_chunks]
  rfl

/-! SETKEY. -/

/-- The key store holds the bytes K: the first 128, and KEYOVF where there were more (R61, R205). -/
structure HoldsKey (K : List Byte) (s : State) : Prop where
  bytes : s.key.toList.take s.keylen.toNat = K.take 128
  length : s.keylen.toNat = min K.length 128
  overflow : s.keyovf = true ↔ 128 < K.length

/-- `t` is `s` but for the key store and the host's side of the port, where nothing is left to do. -/
def ChangesKeyStoreOnly (s t : State) : Prop :=
  ∃ key keylen keyovf,
    t = { s with key := key, keylen := keylen, keyovf := keyovf, pending := [], response := .nothing }

theorem clearKey_holdsKey (s : State) : HoldsKey [] (clearKey s) where
  bytes := rfl
  length := rfl
  overflow := by simp

theorem appendKey_holdsKey {K : List Byte} {s : State} (h : HoldsKey K s) (b : Byte) :
    HoldsKey (K ++ [b]) (appendKey b s) := by
  obtain ⟨hbytes, hlen, hovf⟩ := h
  obtain ⟨hroom, he⟩ | ⟨hfull, he⟩ := appendKey_cases b s <;> rw [he]
  · have hK : K.length < 128 := by omega
    have hsucc : (s.keylen + 1).toNat = s.keylen.toNat + 1 := by bv_omega
    refine ⟨?_, ?_, ?_⟩
    · rw [hsucc, take_setIfInBounds_succ _ _ _ hroom, hbytes, List.take_of_length_le (by omega),
        List.take_of_length_le (by simp; omega)]
    · simp only [hsucc, List.length_append, List.length_singleton]; omega
    · simp only [hovf, List.length_append, List.length_singleton]; omega
  · have hK : 128 ≤ K.length := by omega
    refine ⟨?_, ?_, ?_⟩
    · rw [List.take_append_of_le_length hK]; exact hbytes
    · simp only [hlen, List.length_append, List.length_singleton]; omega
    · simp; omega

/-- LDKEY does the same whatever the host has pending. -/
theorem appendKey_issues (b : Byte) (s : State) (is : List Instr) :
    appendKey b (issues (takeEvent [] s) is) = issues (takeEvent [] (appendKey b s)) is := by
  obtain ⟨hroom, he⟩ | ⟨hfull, he⟩ := appendKey_cases b s <;> rw [he]
  · exact if_pos hroom
  · exact if_neg (Nat.not_lt.mpr hfull)

theorem changesKeyStoreOnly_appendKey {s t : State} {b : Byte} (h : ChangesKeyStoreOnly (appendKey b s) t) :
    ChangesKeyStoreOnly s t := by
  obtain ⟨key, keylen, keyovf, rfl⟩ := h
  refine ⟨key, keylen, keyovf, ?_⟩
  obtain ⟨-, he⟩ | ⟨-, he⟩ := appendKey_cases b s <;> rw [he]

/-- The LDKEYs of K, after those of P. -/
theorem runsTo_ldkeys {s : State} {P : List Byte} (K : List Byte) (h : StateInv s) (hP : HoldsKey P s) :
    ∃ t, runsTo (takeEvent [] s) (K.map .ldkey) t ∧ ChangesKeyStoreOnly s t ∧ HoldsKey (P ++ K) t := by
  induction K generalizing s P with
  | nil =>
    refine ⟨takeEvent [] s, runsTo_nil rfl, ⟨s.key, s.keylen, s.keyovf, rfl⟩, ?_⟩
    rw [List.append_nil]
    exact ⟨hP.bytes, hP.length, hP.overflow⟩
  | cons b K ih =>
    obtain ⟨t, hrun, hframe, hK⟩ := ih (stateInv_appendKey h b) (appendKey_holdsKey hP b)
    refine ⟨t, runsTo_cons (stateInv_takeEvent h []) rfl (congrArg _ (appendKey_issues b s _)) hrun,
      changesKeyStoreOnly_appendKey hframe, ?_⟩
    rwa [List.append_cons]

/-- Settles O56: CLRKEY leaves the empty key, and each LDKEY appends its byte or sets KEYOVF. -/
theorem setKeySequenceLoadsTheKey : Obligations.SetKeySequenceLoadsTheKey := by
  intro s K h
  obtain ⟨t, hrun, ⟨key, keylen, keyovf, rfl⟩, hbytes, hlength, hovf⟩ :=
    runsTo_ldkeys K (stateInv_clearKey h) (clearKey_holdsKey s)
  exact ⟨_, runsTo_cons h rfl rfl hrun, rfl, hbytes, hlength, hovf⟩

end Sys2Proof.Machine
end

section
/-! HASH (R139, R703): the transactions of ABSORB carry its bytes in order, so they feed the message to the computation
INIT started, and FINAL loads its digest. -/

namespace Sys2Proof.Machine

open Sys2Proof.Safety

/-! The bytes ABSORB's transactions carry. -/

theorem take_succ_eq_append_byteAt (B : List Byte) {i : Nat} (h : i < B.length) :
    B.take (i + 1) = B.take i ++ [byteAt B i] := by
  rw [List.take_succ_eq_append_getElem h, byteAt_eq_getElem B i h]

theorem take_add_eq_append_bytes (B : List Byte) (i c : Nat) (h : i + c ≤ B.length) :
    B.take (i + c) = B.take i ++ (List.range c).map fun k => byteAt B (i + k) := by
  induction c with
  | zero => simp
  | succ c ih =>
    rw [← Nat.add_assoc, take_succ_eq_append_byteAt B (by omega), ih (by omega), List.range_succ, List.map_append,
      List.append_assoc]
    rfl

theorem leRead_congr {N : Nat} {B B' : List Byte} {o o' : Nat}
    (h : ∀ k < N / 8, byteAt B (o + k) = byteAt B' (o' + k)) : leRead N B o = leRead N B' o' := by
  unfold leRead
  apply List.foldl_ext
  intro acc k hk
  rw [h k (List.mem_range.mp hk)]

theorem leBytes_word (b3 b2 b1 b0 : Byte) : leBytes (b3 ++ b2 ++ b1 ++ b0) = [b0, b1, b2, b3] := by
  obtain ⟨h3, h2, h1, h0⟩ := slices_bytes b3 b2 b1 b0
  exact congr_arg₂ _ h0 (congr_arg₂ _ h1 (congr_arg₂ _ h2 (congr_arg₂ _ h3 rfl)))

/-- A DIN word holds the four bytes read into it (R102). -/
theorem dinBytes_leRead (B : List Byte) (o : Nat) :
    dinBytes (leRead 32 B o) = (List.range 4).map fun k => byteAt B (o + k) := by
  obtain ⟨w, hw⟩ : ∃ w : Word, leBytes w = (List.range 4).map fun k => byteAt B (o + k) := ⟨_, leBytes_word ..⟩
  have hread : leRead 32 B o = leRead 32 (leBytes w) 0 := by
    apply leRead_congr
    intro k hk
    rw [hw, byteAt_eq_getElem ((List.range 4).map _) _ (by simpa using hk)]
    simp
  rw [hread, leRead_leBytes (by decide)]
  exact hw

theorem dataBytes_dinWords (S : List Byte) (q : Nat) (h : 4 * q ≤ S.length) :
    ((List.range q).map fun j => Instr.wrDin (leRead 32 S (4 * j))).flatMap dataBytes = S.take (4 * q) := by
  induction q with
  | zero => rfl
  | succ q ih =>
    rw [List.range_succ, List.map_append, List.flatMap_append, ih (by omega), Nat.mul_add_one,
      take_add_eq_append_bytes S (4 * q) 4 h, ← dinBytes_leRead]
    exact congrArg _ (List.append_nil _)

theorem dataBytes_asmAbsorbTail (S : List Byte) : (asmAbsorbTail S).flatMap dataBytes =
    (List.range (S.length % 4)).map fun k => byteAt S (4 * (S.length / 4) + k) := by
  unfold asmAbsorbTail
  simp only
  split
  · next hr =>
    rw [hr, show S.length - 1 = 4 * (S.length / 4) by omega]
    rfl
  · next hr =>
    rw [hr, show S.length - 2 = 4 * (S.length / 4) by omega, show S.length - 1 = 4 * (S.length / 4) + 1 by omega]
    rfl
  · next hr =>
    rw [hr, show S.length - 3 = 4 * (S.length / 4) by omega, show S.length - 2 = 4 * (S.length / 4) + 1 by omega,
      show S.length - 1 = 4 * (S.length / 4) + 2 by omega]
    rfl
  · next h1 h2 h3 =>
    simp only [imp_false] at h1 h2 h3
    rw [show S.length % 4 = 0 by omega]
    rfl

/-- ABSORB's transactions carry its bytes, in order (R139). -/
theorem dataBytes_asmAbsorb (S : List Byte) : (asmAbsorb S).flatMap dataBytes = S := by
  rw [asmAbsorb, List.flatMap_append, dataBytes_dinWords S _ (Nat.mul_div_le ..), dataBytes_asmAbsorbTail,
    ← take_add_eq_append_bytes S _ _ (Nat.div_add_mod ..).le, Nat.div_add_mod, List.take_length]

theorem dataBytes_ne_nil_of_mem_asmAbsorb {S : List Byte} {i : Instr} (h : i ∈ asmAbsorb S) : dataBytes i ≠ [] := by
  obtain h | h := List.mem_append.mp h
  · obtain ⟨j, -, rfl⟩ := List.mem_map.mp h
    nofun
  · unfold asmAbsorbTail at h
    simp only at h
    split at h
    case h_4 => cases h
    all_goals
      obtain rfl := List.mem_singleton.mp h
      nofun

/-! What they do to a running computation. -/

theorem feed_nil (s : State) : feed [] s = s := by simp [feed]

/-- Bytes fed in two parts are fed at once (R207). -/
theorem feed_append (A B : List Byte) (s : State) : feed (A ++ B) s = feed B (feed A s) := by
  simp [feed, BitVec.ofNat_add, BitVec.add_assoc]

theorem exec_of_dataBytes {i : Instr} (h : dataBytes i ≠ []) (s : State) :
    exec i s = .next (absorbBytes (dataBytes i) s) := by
  cases i with
  | absorb1 | absorb2 | absorb3 | wrDin => rfl
  | nop | init _ _ | ldseed _ _ | ldkey _ | clrkey | final => exact absurd rfl h
  | rdStatus | rdMlen0 | rdMlen1 | rdSeed0 | rdSeed1 | rdDout _ => exact absurd rfl h

theorem wellFormed_of_dataBytes {i : Instr} (h : dataBytes i ≠ []) : i.wellFormed = true := by
  cases i with
  | init => exact absurd rfl h
  | _ => rfl

/-- Data transactions with room for their bytes feed them, whatever comes after. -/
theorem runsTo_append_of_feed {s t : State} {ds is : List Instr} (hd : ∀ i ∈ ds, dataBytes i ≠ []) (h : StateInv s)
    (hp : s.phase = .active) (he : s.err = .none) (hl : s.mlen.toNat + (ds.flatMap dataBytes).length ≤ 2 ^ 64 - 1)
    (hrest : runsTo (takeEvent [] (feed (ds.flatMap dataBytes) s)) is t) : runsTo (takeEvent [] s) (ds ++ is) t := by
  induction ds generalizing s with
  | nil => rwa [List.flatMap_nil, feed_nil] at hrest
  | cons i ds ih =>
    obtain ⟨hi, hds⟩ := List.forall_mem_cons.mp hd
    rw [List.flatMap_cons] at hl hrest
    rw [List.length_append] at hl
    rw [feed_append] at hrest
    have hroom : s.mlen.toNat + (dataBytes i).length ≤ 2 ^ 64 - 1 := by omega
    have hexec : exec i (issues (takeEvent [] s) (ds ++ is)) =
        .next (issues (takeEvent [] (feed (dataBytes i) s)) (ds ++ is)) := by
      rw [exec_of_dataBytes hi, absorbBytes_feed _ (issues (takeEvent [] s) _) he hp hroom]
      rfl
    refine runsTo_cons (stateInv_takeEvent h []) (wellFormed_of_dataBytes hi) hexec ?_
    exact ih hds (stateInv_feed h hp hroom) hp he (by rw [feed_mlen_toNat _ _ hroom]; omega) hrest

/-- FINAL in a running computation. -/
theorem runsTo_final {s : State} (h : StateInv s) (hp : s.phase = .active) (he : s.err = .none) :
    runsTo (takeEvent [] s) [.final]
      (takeEvent [] (loadDigest (digestOf s.alg s.outlen.toNat s.cseed s.ckey s.msg) s)) := by
  have hexec : exec .final (issues (takeEvent [] s) []) =
      .next (issues (takeEvent [] (loadDigest (digestOf s.alg s.outlen.toNat s.cseed s.ckey s.msg) s)) []) := by
    show Host.Outcome.next (finalise _) = _
    obtain ⟨hne, -⟩ | ⟨-, hne, -⟩ | ⟨-, -, hf⟩ := finalise_cases (issues (takeEvent [] s) [])
    · exact absurd he hne
    · exact absurd hp hne
    · rw [hf]; rfl
  exact runsTo_cons (stateInv_takeEvent h []) rfl hexec (runsTo_nil rfl)

theorem execInit_start {s : State} {alg : Alg} {ol : BitVec 7} (hk : ¬(alg = .blake2b ∧ s.keyovf = true)) :
    exec (.init alg ol) s = .next (startComputation alg ol s) := congrArg _ (if_neg hk)

/-- Settles O57: INIT starts the computation, ABSORB's transactions feed it the bytes, FINAL loads the digest, and the
invariant says what DIGEST then holds. -/
theorem hashSequenceLoadsTheDigest : Obligations.HashSequenceLoadsTheDigest := by
  intro s alg n S h hl hk hlen
  have hstart := stateInv_startComputation h hl
  have hroom : (startComputation alg n s).mlen.toNat + S.length ≤ 2 ^ 64 - 1 := by simp; omega
  have hfeed := stateInv_feed hstart rfl hroom
  have hdone := stateInv_loadDigest hfeed rfl
  have hmlen := feed_mlen_toNat S (startComputation alg n s) hroom
  have hinit : exec (.init alg n) (issues (takeEvent [] s) (asmAbsorb S ++ [.final])) =
      .next (issues (takeEvent [] (startComputation alg n s)) (asmAbsorb S ++ [.final])) :=
    execInit_start (s := issues (takeEvent [] s) _) hk
  have habsorb : runsTo (takeEvent [] (startComputation alg n s)) (asmAbsorb S ++ [.final]) _ :=
    runsTo_append_of_feed (fun i hi => dataBytes_ne_nil_of_mem_asmAbsorb hi) hstart rfl rfl
      (by rwa [dataBytes_asmAbsorb]) (by rw [dataBytes_asmAbsorb]; exact runsTo_final hfeed rfl rfl)
  refine ⟨_, runsTo_cons h hl hinit habsorb, rfl, rfl, rfl, ?_, ?_, ?_⟩
  · exact ite_not (n = 0) n (fixedLen alg)
  · simpa using hmlen
  · exact hdone.digest.trans (if_pos rfl)

/-- Settles O18: a legal operand pair leaves the fixed length to every algorithm but BLAKE2b. -/
theorem initChoosesTheDigestLength : Obligations.InitChoosesTheDigestLength := by
  intro s t alg ol hl hk h
  obtain rfl := Host.Outcome.next.inj ((execInit_start hk).symm.trans h)
  have hfixed (hb : alg ≠ .blake2b) : initOutlen alg ol = fixedLen alg := by
    simpa [outlenLegal, hb] using outlenLegal_initOutlen hl
  simp only [startComputation_outlen]
  refine ⟨?_, ?_, ?_⟩
  · rintro rfl rfl; rfl
  · rintro - h0; exact if_pos h0
  · refine ⟨?_, ?_, ?_, ?_, ?_, ?_, ?_, ?_, ?_, ?_⟩ <;> (rintro rfl; exact hfixed nofun)

end Sys2Proof.Machine
end

section
/-! The three ways a step treats a record (R200): a bus error, an illegal command word, an instruction. The records that
are bus errors (R217); the command words with a reserved bit set, each in its format of R131 (R135). -/

namespace Sys2Proof

theorem guard_ne_busErr {c : Prop} [Decidable c] (i : Instr) :
    (if c then Decoded.instr i else .illegal) ≠ .busErr := by split <;> nofun

theorem decodeInit_ne_busErr (w : Word) : decodeInit w ≠ .busErr := by
  unfold decodeInit
  split
  · nofun
  · split
    · nofun
    · exact guard_ne_busErr _

/-- A write to CMD is never a bus error. -/
theorem decodeCmd_ne_busErr (w : Word) : decodeCmd w ≠ .busErr := by
  unfold decodeCmd
  split
  case h_2 => exact decodeInit_ne_busErr w
  case h_8 | h_10 => nofun
  all_goals exact guard_ne_busErr _

theorem decodeWrite_eq_busErr_iff (widx : BitVec 5) (w : Word) :
    decodeWrite widx w = .busErr ↔ widx = 1#5 ∨ 3#5 ≤ widx := by
  unfold decodeWrite
  split
  · next h0 => exact iff_of_false (decodeCmd_ne_busErr w) (by bv_omega)
  · next h2 => exact iff_of_false nofun (by bv_omega)
  · next h0 h2 =>
    simp only [imp_false] at h0 h2
    exact iff_of_true rfl (by bv_omega)

theorem decodeRead_eq_busErr_iff : ∀ widx : BitVec 5,
    decodeRead widx = .busErr ↔ widx = 0#5 ∨ widx = 2#5 ∨ (7#5 ≤ widx ∧ widx ≤ 15#5) := by decide

/-- Settles O4: writes and reads have their unmapped slots each, and slots 7 to 15 are unmapped for both. -/
theorem busErrorsAreExactlyTheListed : Obligations.BusErrorsAreExactlyTheListed := by
  intro ht
  show decode ht = .busErr ↔ (htWe ht = true ∧ (htWidx ht = 1#5 ∨ 3#5 ≤ htWidx ht)) ∨
    (htWe ht = false ∧ (htWidx ht = 0#5 ∨ htWidx ht = 2#5)) ∨ (7#5 ≤ htWidx ht ∧ htWidx ht ≤ 15#5)
  cases hwe : htWe ht with
  | true =>
    have hslots : 7#5 ≤ htWidx ht → 3#5 ≤ htWidx ht := by bv_omega
    rw [decode, if_pos hwe, decodeWrite_eq_busErr_iff]
    simp only [true_and]
    tauto
  | false =>
    rw [decode, if_neg (by simp [hwe]), decodeRead_eq_busErr_iff]
    simp [or_assoc]

/-! A command word's record, field by field (R130, R131). -/

theorem record_formatN (op : Byte) (r : BitVec 24) : 1#1 ++ 0#5 ++ op ++ r = cmdHT (op ++ r) :=
  BitVec.append_assoc

theorem record_formatS (op : Byte) (r : BitVec 6) (k : BitVec 2) (imm16 : BitVec 16) :
    1#1 ++ 0#5 ++ op ++ r ++ k ++ imm16 = cmdHT (op ++ r ++ k ++ imm16) := by
  have h1 : 1#1 ++ 0#5 ++ op ++ r = (1#1 ++ 0#5) ++ (op ++ r) := BitVec.append_assoc
  have h2 : 1#1 ++ 0#5 ++ (op ++ r) ++ k = (1#1 ++ 0#5) ++ (op ++ r ++ k) := BitVec.append_assoc
  rw [h1, h2]
  exact BitVec.append_assoc

theorem record_formatB1 (op : Byte) (r : BitVec 16) (b0 : Byte) :
    1#1 ++ 0#5 ++ op ++ r ++ b0 = cmdHT (op ++ r ++ b0) := by
  have h1 : 1#1 ++ 0#5 ++ op ++ r = (1#1 ++ 0#5) ++ (op ++ r) := BitVec.append_assoc
  rw [h1]
  exact BitVec.append_assoc

end Sys2Proof

namespace Sys2Proof.Machine

theorem runTransaction_instr {ht : HT} {i : Instr} (h : decode ht = .instr i) (s : State) :
    runTransaction ht s = exec i s := by
  rw [runTransaction, h]

theorem runTransaction_illegal {ht : HT} (h : decode ht = .illegal) (s : State) :
    runTransaction ht s = .next (raise .illegal s) := by
  rw [runTransaction, h]

theorem runTransaction_busErr {ht : HT} (h : decode ht = .busErr) (s : State) :
    runTransaction ht s = .next (busError ht s) := by
  rw [runTransaction, h]

/-- A step on a transaction, in a state the check accepts. -/
theorem step_transaction {s : State} {ht : HT} {rest : List HostEvent} (hr : holdsR67 s = true)
    (hp : s.pending = .transaction ht :: rest) : step s = runTransaction ht (takeEvent rest s) := by
  rw [step, if_pos hr, hp]

/-- raise as one update of ERR (R601). -/
theorem raise_eq (e : Err) (s : State) : raise e s = { s with err := if s.err = .none then e else s.err } := by
  obtain ⟨he, h⟩ | ⟨he, h⟩ := raise_cases e s <;> rw [h]
  · rw [if_pos he]
  · rw [if_neg he]

/-- A bus error as one update of the port's answer and ERR (R217, R602); a write is answered with nothing. -/
theorem busError_eq (ht : HT) (s : State) : busError ht s = { s with
    response := if htWe ht = true then s.response else .rdata 0
    err := if s.err = .none then .bus else s.err } := by
  rw [busError, raise_eq]
  split <;> rfl

/-- Settles O6: the state exec works on is the one `takeEvent` leaves. -/
theorem stepRunsTheDecodedInstruction : Obligations.StepRunsTheDecodedInstruction := by
  intro s ht rest i hr hp hd
  rw [step_transaction hr hp, runTransaction_instr hd]
  rfl

/-- Settles O8: the step is `busError` on the state `takeEvent` leaves. -/
theorem stepOnBusErrorRaisesBus : Obligations.StepOnBusErrorRaisesBus := by
  intro s ht rest hr hp hd
  rw [step_transaction hr hp, runTransaction_busErr hd, busError_eq]
  rfl

/-- A command word that the decoder finds illegal, as a record (R603). -/
theorem runTransaction_cmdHT_illegal {w : Word} (h : decodeCmd w = .illegal) (s : State) :
    runTransaction (cmdHT w) s = .next (raise .illegal s) :=
  runTransaction_illegal ((decode_cmdHT w).trans h) s

/-- NOP, CLRKEY and FINAL have no field: the word is reserved but for the opcode (R135). -/
theorem runTransaction_formatN_reserved {op : Byte} (hop : op = 0#8 ∨ op = 4#8 ∨ op = 8#8) {r : BitVec 24} (hr : r ≠ 0)
    (s : State) : runTransaction (1#1 ++ 0#5 ++ op ++ r) s = .next (raise .illegal s) := by
  have hill : decodeCmd (op ++ r) = .illegal := by
    rw [decodeCmd_eq_illegal_iff, extractLsb'_append_left, extractLsb'_append_right]
    exact .inr (.inl ⟨hop, hr⟩)
  rw [record_formatN, runTransaction_cmdHT_illegal hill]

/-- Settles O15: NOP's meaning is the state it is given, and its reserved bits are those of format N. -/
theorem nopChangesNothing : Obligations.NopChangesNothing :=
  ⟨fun _ => rfl, rfl, fun s _ hr => runTransaction_formatN_reserved (.inl rfl) hr s⟩

end Sys2Proof.Machine
end

section
/-! The configuration and control commands (spec/40_host_commands.md, section 2): what INIT, LDSEED, LDKEY and CLRKEY
write. -/

namespace Sys2Proof.Machine

open Sys2Proof.Safety

/-! INIT. -/

/-- OUTLEN as R133 words it, BLAKE2b's default apart. -/
theorem initOutlen_eq (alg : Alg) (ol : BitVec 7) :
    initOutlen alg ol = if ol ≠ 0 then ol else if alg = .blake2b then 64 else fixedLen alg := by
  cases alg <;> rfl

/-- INIT copies at most the 128 bytes KEY holds. -/
theorem length_initKey_le (alg : Alg) (s : State) : (initKey alg s).length ≤ 128 := by
  unfold initKey keyBytes
  split
  · simp
  · exact Nat.zero_le _

/-- BLAKE2b's parameter word, the rest of the chaining state being the IV (R391). -/
theorem blake2bParam_eq (nn kk : Nat) : blake2bParam nn kk =
    #v[0x6A09E667F3BCC908 ^^^ 0x01010000 ^^^ (BitVec.ofNat 64 kk <<< 8) ^^^ BitVec.ofNat 64 nn,
      0xBB67AE8584CAA73B, 0x3C6EF372FE94F82B, 0xA54FF53A5F1D36F1,
      0x510E527FADE682D1, 0x9B05688C2B3E6C1F, 0x1F83D9ABFB41BD6B, 0x5BE0CD19137E2179] := rfl

theorem blake2bInit_h (outlen : Nat) (K : List Byte) (r : Blake2bRegs) :
    (blake2bInit outlen K r).h = blake2bParam outlen K.length := by
  unfold blake2bInit; split <;> rfl

theorem blake2bInit_t (outlen : Nat) (K : List Byte) (r : Blake2bRegs) : (blake2bInit outlen K r).t = 0 := by
  unfold blake2bInit; split <;> rfl

theorem blake2bInit_unkeyed (outlen : Nat) (r : Blake2bRegs) : (blake2bInit outlen [] r).fill = 0 := rfl

/-- A key fills BUF with its block, zero-padded (R399). -/
theorem blake2bInit_keyed (outlen : Nat) {K : List Byte} (hK : K ≠ []) (hlen : K.length ≤ 128) (r : Blake2bRegs) :
    (blake2bInit outlen K r).fill = 128 ∧
      (blake2bInit outlen K r).buf.toList = K ++ zeros (128 - K.length) := by
  have hpos : K.length > 0 := List.length_pos_iff.mpr hK
  have hblock : (blake2bKeyBlock K).length = 128 := (length_blake2bKeyBlock K hlen).trans (if_neg hK)
  rw [blake2bInit, if_pos hpos]
  refine ⟨rfl, ?_⟩
  rw [toList_toBuffer 128 _ hblock.le, hblock, blake2bKeyBlock, if_pos hpos]
  exact List.append_nil _

/-- EngineInit, engine by engine, sets the registers of Safety.lean's list (R263). -/
theorem engineAtStart_engineInit (alg : Alg) (outlen : Nat) (cseed : DWord) {ckey : List Byte}
    (hlen : ckey.length ≤ 128) (dp : Datapath) :
    engineAtStart alg outlen cseed ckey (engineInit alg outlen cseed ckey dp) := by
  cases alg with
  | blake2b =>
    refine ⟨(blake2bInit_h ..).trans (blake2bParam_eq ..), blake2bInit_t .., ?_, fun hK => blake2bInit_keyed _ hK hlen _⟩
    rintro rfl
    exact blake2bInit_unkeyed ..
  | sha3_256 => exact ⟨fun i => Vector.getElem_replicate i.isLt, rfl⟩
  | md5 | sha512 | ripemd160 | tiger192 | murmur3_32 | xxh64 => exact ⟨rfl, rfl⟩
  | crc16 | crc32 | crc64 => rfl

/-- Settles O16: `startComputation` is R203's list of assignments, and its datapath is EngineInit's. -/
theorem initStartsAComputation : Obligations.InitStartsAComputation := by
  intro s alg ol _ hk
  refine ⟨startComputation alg ol s, execInit_start hk, ?_, ?_⟩
  · rw [← initOutlen_eq]
    rfl
  · exact engineAtStart_engineInit alg _ s.seed (length_initKey_le alg s) s.dp

/-- INIT BLAKE2b after an over-long key (R605). -/
theorem execInit_overlong {s : State} (h : s.keyovf = true) (ol : BitVec 7) :
    exec (.init .blake2b ol) s = .next (raise .key s) := congrArg _ (if_pos ⟨rfl, h⟩)

/-! LDSEED. -/

/-- The upper chunks leave the low half of SEED alone. -/
theorem lowWord_setSeedChunk (seed : DWord) {k : BitVec 2} (hk : 2 ≤ k.toNat) (imm16 : BitVec 16) :
    lowWord (setSeedChunk seed k imm16) = lowWord seed := by
  apply BitVec.eq_of_getLsbD_eq
  intro j hj
  rw [lowWord, lowWord, BitVec.getLsbD_extractLsb', BitVec.getLsbD_extractLsb', Nat.zero_add,
    getLsbD_setSeedChunk _ _ _ (by omega), if_neg (by omega)]

/-- Settles O19: the chunk's bits are `getLsbD_setSeedChunk`'s; the reserved bits are those of format S. -/
theorem ldseedWritesItsChunk : Obligations.LdseedWritesItsChunk := by
  refine ⟨fun s k imm => ?_, fun k imm => (record_formatS ..).symm, fun s r k imm hr => ?_, ?_⟩
  · exact ⟨{ s with seed := setSeedChunk s.seed k imm }, rfl, rfl,
      fun j hj => getLsbD_setSeedChunk s.seed k imm hj, fun hk => lowWord_setSeedChunk s.seed hk imm⟩
  · obtain ⟨hop, hres, -, -⟩ := slices_formatS 0x02#8 r k imm
    have hill : decodeCmd (0x02#8 ++ r ++ k ++ imm) = .illegal := by
      rw [decodeCmd_ldseed hop, hres]
      exact if_neg hr
    rw [record_formatS, runTransaction_cmdHT_illegal hill]
  · exact ⟨{ State.reset with seed := 0x00000000ABCD0000 }, rfl, rfl, rfl, rfl⟩

/-! LDKEY. -/

theorem execLdkey_room {s : State} (h : s.keylen.toNat < 128) (b : Byte) : exec (.ldkey b) s =
    .next { s with key := s.key.setIfInBounds s.keylen.toNat b, keylen := s.keylen + 1 } := congrArg _ (if_pos h)

theorem execLdkey_full {s : State} (h : s.keylen.toNat = 128) (b : Byte) :
    exec (.ldkey b) s = .next { s with keyovf := true } := congrArg _ (if_neg (by omega))

/-- Settles O20: LDKEY by the two cases of KEYLEN; the reserved bits are those of format B1. -/
theorem ldkeyAppendsOrOverflows : Obligations.LdkeyAppendsOrOverflows := by
  refine ⟨fun s b h => ?_, fun s b h => ?_, fun b => (record_formatB1 ..).symm, fun s r b hr => ?_, ?_⟩
  · refine ⟨_, execLdkey_room h b, rfl, ?_, fun i => ?_⟩
    · show (s.keylen + 1).toNat = _
      bv_omega
    · exact (Vector.getElem_setIfInBounds i.isLt).trans (if_congr eq_comm rfl rfl)
  · refine ⟨execLdkey_full h b, fun ol => ?_⟩
    rw [execInit_overlong rfl, raise_eq]
  · obtain ⟨hop, hres, -⟩ := slices_formatB1 0x03#8 r b
    have hill : decodeCmd (0x03#8 ++ r ++ b) = .illegal := by
      rw [decodeCmd_ldkey hop, hres]
      exact if_neg hr
    rw [record_formatB1, runTransaction_cmdHT_illegal hill]
  · exact ⟨_, execLdkey_room (by decide) 0x4B, Vector.getElem_setIfInBounds_self (by decide), rfl, rfl⟩

/-! CLRKEY. -/

/-- Settles O21: of the effects a step can have, only CLRKEY and reset write a 0 to KEYOVF. -/
theorem clrkeyClearsTheKeyStore : Obligations.ClrkeyClearsTheKeyStore := by
  refine ⟨fun s => ?_, rfl, fun s r hr => ?_, fun s t h hset hclear => ?_⟩
  · exact ⟨clearKey s, rfl, rfl, fun i => Vector.getElem_replicate i.isLt⟩
  · exact runTransaction_formatN_reserved (.inr (.inl rfl)) hr s
  · cases stepEffect_of_step h with
    | quiet | start | ldseed | feed | final => exact absurd (hset.symm.trans hclear) nofun
    | ldkey b rest =>
      obtain ⟨-, he⟩ | ⟨-, he⟩ := appendKey_cases b (takeEvent rest s) <;> rw [he] at hclear
      · exact absurd (hset.symm.trans hclear) nofun
      · exact nomatch hclear
    | clrkey _ hi => exact .inl hi
    | reset _ _ _ hr => exact .inr hr

end Sys2Proof.Machine
end

section
/-! The data commands and FINAL (spec/40_host_commands.md, section 3) on a running computation without error. -/

namespace Sys2Proof.Machine

open Sys2Proof.Safety

/-- A data command with room for its bytes feeds them (R207). -/
theorem exec_feeds {s : State} {i : Instr} (hi : dataBytes i ≠ []) (he : s.err = .none) (hp : s.phase = .active)
    (hroom : s.mlen.toNat + (dataBytes i).length ≤ 2 ^ 64 - 1) : exec i s = .next (feed (dataBytes i) s) := by
  rw [exec_of_dataBytes hi, absorbBytes_feed _ _ he hp hroom]

/-- A DIN word's bytes, lowest first (R102). -/
theorem dinBytes_word (b3 b2 b1 b0 : Byte) : dinBytes (b3 ++ b2 ++ b1 ++ b0) = [b0, b1, b2, b3] := leBytes_word ..

/-- Settles O22: each command's bytes are fed, and `feed` is EngineAbsorb byte by byte. -/
theorem dataCommandsAbsorbTheirBytes : Obligations.DataCommandsAbsorbTheirBytes := by
  intro s b0 b1 b2 b3 he hp
  refine ⟨fun hroom => ?_, fun hroom => ?_, fun hroom => ?_, fun hroom => ?_⟩
  · exact exec_feeds (i := .absorb1 b0) nofun he hp hroom
  · exact exec_feeds (i := .absorb2 b0 b1) nofun he hp hroom
  · exact exec_feeds (i := .absorb3 b0 b1 b2) nofun he hp hroom
  · rw [exec_feeds (i := .wrDin (b3 ++ b2 ++ b1 ++ b0)) nofun he hp hroom, dataBytes, dinBytes_word]
    rfl

/-- Settles O23: both sides feed their bytes, and feeding in two parts is feeding at once. -/
theorem absorbingInPartsIsAbsorbingAtOnce : Obligations.AbsorbingInPartsIsAbsorbingAtOnce := by
  intro s S T he hp hroom
  have hS : s.mlen.toNat + S.length ≤ 2 ^ 64 - 1 := by omega
  have hT : (feed S s).mlen.toNat + T.length ≤ 2 ^ 64 - 1 := by rwa [feed_mlen_toNat S s hS]
  have hST : s.mlen.toNat + (S ++ T).length ≤ 2 ^ 64 - 1 := by rwa [List.length_append, ← Nat.add_assoc]
  rw [absorbBytes_feed S s he hp hS, absorbBytes_feed T (feed S s) he hp hT, absorbBytes_feed (S ++ T) s he hp hST,
    feed_append]

theorem finalise_active {s : State} (he : s.err = .none) (hp : s.phase = .active) :
    finalise s = loadDigest (digestOf s.alg s.outlen.toNat s.cseed s.ckey s.msg) s := by
  rw [finalise, if_neg (not_not.mpr he), if_neg (not_not.mpr hp)]

/-- DIGEST after FINAL is the digest, zero-filled from OUTLEN on (R262). -/
theorem toList_toBuffer_digestOf {alg : Alg} {outlen : BitVec 7} (h : outlenLegal alg outlen) (cseed : DWord)
    (ckey msg : List Byte) : (toBuffer 64 (digestOf alg outlen.toNat cseed ckey msg)).toList =
      digestOf alg outlen.toNat cseed ckey msg ++ zeros (64 - outlen.toNat) := by
  have hD := length_digestOf h cseed ckey msg
  rw [toList_toBuffer 64 _ (hD.trans_le (outlenLegal_bounds h).2), hD]

/-- Settles O27: FINAL loads the digest, which has OUTLEN bytes. -/
theorem finalLoadsTheDigest : Obligations.FinalLoadsTheDigest := by
  intro s he hp hlegal
  exact ⟨loadDigest (digestOf s.alg s.outlen.toNat s.cseed s.ckey s.msg) s,
    congrArg Host.Outcome.next (finalise_active he hp), rfl, toList_toBuffer_digestOf hlegal s.cseed s.ckey s.msg⟩

end Sys2Proof.Machine
end

section
/-! The read transactions (spec/40_host_commands.md, section 4): a word put together by shifts and ors is the
concatenation of its fields, and each read returns the word of its slot. -/

namespace Sys2Proof.Machine

open Sys2Proof.Safety
open BitVec (extractLsb'_append_eq_left extractLsb'_append_eq_right extractLsb'_append_eq_of_le
  extractLsb'_append_eq_of_add_le)

/-- Two neighbouring fields, each shifted to its place in a word of N bits, are one field. -/
theorem shiftLeft_or_shiftLeft {m n p q : Nat} (N : Nat) (a : BitVec m) (b : BitVec n) (hq : q = n + p) :
    a.setWidth N <<< q ||| b.setWidth N <<< p = (a ++ b).setWidth N <<< p := by
  subst hq
  apply BitVec.eq_of_getLsbD_eq
  intro i hi
  simp only [BitVec.getLsbD_or, BitVec.getLsbD_shiftLeft, BitVec.getLsbD_setWidth, BitVec.getLsbD_append, hi]
  by_cases hp : i < p
  · simp [hp, Nat.lt_add_left n hp]
  · by_cases hn : i < n + p
    · simp [hp, hn, show i - p < n by omega, show i - p < N by omega]
    · simp [hp, hn, show ¬i - p < n by omega, show i - p < N by omega, show i - (n + p) < N by omega,
        show i - p - n = i - (n + p) by omega, BitVec.getLsbD_of_ge b (i - p) (by omega)]

/-- The lowest field, which is not shifted. -/
theorem shiftLeft_or_setWidth {m n : Nat} (N : Nat) (a : BitVec m) (b : BitVec n) :
    a.setWidth N <<< n ||| b.setWidth N = (a ++ b).setWidth N := by
  simpa using shiftLeft_or_shiftLeft N a b (p := 0) rfl

/-- STATUS as the concatenation of its fields (R54). -/
theorem statusWord_eq (s : State) : statusWord s = 0#4 ++ (s.keylen ++ BitVec.ofBool s.keyovf ++ s.dlen ++
    algId s.alg ++ errCode s.err ++ (0#2 ++ phaseCode s.phase)) := by
  have hphase : ∀ p : BitVec 2, p.setWidth 32 = (0#2 ++ p).setWidth 32 := by decide
  rw [statusWord, hphase, shiftLeft_or_shiftLeft 32 _ _ (p := 19) rfl, shiftLeft_or_shiftLeft 32 _ _ (p := 12) rfl,
    shiftLeft_or_shiftLeft 32 _ _ (p := 8) rfl, shiftLeft_or_shiftLeft 32 _ _ (p := 4) rfl, shiftLeft_or_setWidth 32]
  exact BitVec.setWidth_eq_append (by decide)

/-- The fields of a word put together as STATUS is. -/
theorem slices_status (r4 : BitVec 4) (keylen : BitVec 8) (keyovf : BitVec 1) (dlen : BitVec 7) (alg err : BitVec 4)
    (r2 phase : BitVec 2) {w : Word} (hw : w = r4 ++ (keylen ++ keyovf ++ dlen ++ alg ++ err ++ (r2 ++ phase))) :
    w.extractLsb' 0 2 = phase ∧ w.extractLsb' 2 2 = r2 ∧ w.extractLsb' 4 4 = err ∧ w.extractLsb' 8 4 = alg ∧
      w.extractLsb' 12 7 = dlen ∧ w.extractLsb' 19 1 = keyovf ∧ w.extractLsb' 20 8 = keylen ∧
      w.extractLsb' 28 4 = r4 := by
  subst hw
  refine ⟨?_, ?_, ?_, ?_, ?_, ?_, ?_, extractLsb'_append_eq_left⟩ <;> rw [extractLsb'_append_eq_of_add_le (by decide)]
  · rw [extractLsb'_append_eq_of_add_le (by decide), extractLsb'_append_eq_right]
  · rw [extractLsb'_append_eq_of_add_le (by decide), extractLsb'_append_eq_left]
  · rw [extractLsb'_append_eq_of_le (by decide), extractLsb'_append_eq_right]
  · rw [extractLsb'_append_eq_of_le (by decide), extractLsb'_append_eq_of_le (by decide), extractLsb'_append_eq_right]
  · iterate 3 rw [extractLsb'_append_eq_of_le (by decide)]
    rw [extractLsb'_append_eq_right]
  · iterate 4 rw [extractLsb'_append_eq_of_le (by decide)]
    rw [extractLsb'_append_eq_right]
  · iterate 5 rw [extractLsb'_append_eq_of_le (by decide)]
    exact BitVec.extractLsb'_eq_self

/-- DOUTi as the concatenation of its bytes (R104). -/
theorem doutWord_eq (digest : Vector Byte 64) (i : BitVec 4) : doutWord digest i =
    digest.getD (4 * i.toNat) 0 ++ digest.getD (4 * i.toNat + 1) 0 ++ digest.getD (4 * i.toNat + 2) 0 ++
      digest.getD (4 * i.toNat + 3) 0 := by
  simp only [doutWord]
  rw [shiftLeft_or_shiftLeft 32 _ _ (p := 16) rfl, shiftLeft_or_shiftLeft 32 _ _ (p := 8) rfl,
    shiftLeft_or_setWidth 32]
  exact BitVec.setWidth_eq _

theorem lowWord_eq (v : DWord) : lowWord v = BitVec.ofNat 32 v.toNat := rfl

theorem highWord_eq (v : DWord) : highWord v = BitVec.ofNat 32 (v.toNat / 2 ^ 32) :=
  congrArg (BitVec.ofNat 32) (Nat.shiftRight_eq_div_pow ..)

/-- Settles O28: STATUS is the concatenation of its fields, with zeros between them. -/
theorem rdStatusReturnsTheFields : Obligations.RdStatusReturnsTheFields := by
  intro s
  obtain ⟨hphase, hr2, herr, halg, hdlen, hovf, hlen, hr4⟩ := slices_status _ _ _ _ _ _ _ _ (statusWord_eq s)
  have hbit : (statusWord s).getLsbD 19 = s.keyovf := by
    simpa using congrArg (BitVec.getLsbD · 0) hovf
  refine ⟨statusWord s, rfl, hphase.trans ?_, hr2, herr.trans ?_, halg.trans ?_, hdlen, hbit, hlen, hr4⟩
  · cases s.phase <;> rfl
  · cases s.err <;> rfl
  · cases s.alg <;> rfl

/-- Settles O29: each read returns a half of its register as a number. -/
theorem lengthAndSeedReadsReturnTheHalves : Obligations.LengthAndSeedReadsReturnTheHalves := by
  intro s
  rw [← lowWord_eq, ← lowWord_eq, ← highWord_eq, ← highWord_eq]
  exact ⟨rfl, rfl, rfl, rfl⟩

/-- A DIGEST of zeros reads as 0 in every word. -/
theorem doutWord_zeros {digest : Vector Byte 64} (h : digest.toList = zeros 64) (i : BitVec 4) :
    doutWord digest i = 0 := by
  obtain rfl : digest = Vector.replicate 64 0 := Vector.toList_inj.mp h
  have hbyte (k : Nat) : (Vector.replicate 64 (0 : Byte)).getD k 0 = 0 := by
    by_cases hk : k < 64 <;> simp [Vector.getD, hk]
  simp only [doutWord_eq, hbyte]
  rfl

/-- Settles O30: a DOUT word is its four bytes, which the invariant says are zeros outside DONE. -/
theorem rdDoutReturnsFourDigestBytes : Obligations.RdDoutReturnsFourDigestBytes := by
  intro s i
  refine ⟨?_, fun h hp => ?_⟩
  · rw [← doutWord_eq]
    rfl
  · rw [← doutWord_zeros (digest_eq_zeros h hp) i]
    rfl

end Sys2Proof.Machine
end

section
/-! The digest function and streaming (spec/41_digest_and_stream.md, sections 1 and 2): what each engine's EngineFinal
reads from registers its streaming rule left is the digest of the whole message (R264), and what a digest depends on. -/

namespace Sys2Proof.Machine

open Sys2Proof.Safety

/-- Settles O37: INIT, FINAL and reset are the effects that write DIGEST and DLEN. -/
theorem digestChangesOnlyByInitFinalOrReset : Obligations.DigestChangesOnlyByInitFinalOrReset := by
  intro s t h
  cases stepEffect_of_step h with
  | quiet | ldseed | clrkey | feed => exact .inl ⟨rfl, rfl⟩
  | ldkey b _ => exact .inl ⟨appendKey_digest b _, appendKey_dlen b _⟩
  | start _ _ _ hs => exact .inr (.inl hs)
  | final _ hf => exact .inr (.inr (.inl hf))
  | reset _ _ _ hr => exact .inr (.inr (.inr hr))

/-- Padding what BUF holds after the message and compressing on is compressing the padded message. -/
theorem foldBlocks_padBlock_stream {σ : Type} {C : Nat} (f : σ → List Byte → σ) (hC : 0 < C) (h0 : σ) (target : Nat)
    (m : Byte) (L M : List Byte) (r : EagerRegs σ C) :
    foldBlocks C f (M.foldl (eagerAbsorb f) (eagerInit h0 r)).chain
        (padBlock C target m L (M.foldl (eagerAbsorb f) (eagerInit h0 r)).partialBlock) =
      foldBlocks C f h0 (padBlock C target m L M) := by
  obtain ⟨hchain, -, hpartial⟩ := eager_stream f hC h0 M r
  rw [hchain, hpartial, ← foldBlocks_padBlock f hC]

/-- SHA3's EngineFinal, after the message M. -/
theorem Absorbed.sha3Final_eq {M : List Byte} {r : EagerRegs Lanes 136} (h : Absorbed 136 sha3Absorb sha3IV M r) :
    sha3Final r = sha3Digest M := by
  rw [sha3Final, h.chain, h.partialBlock]
  rfl

/-- MurmurHash3's EngineFinal, after the message M. -/
theorem Absorbed.mm3Final_eq {s : Word} {M : List Byte} {r : EagerRegs Word 4} (h : Absorbed 4 mm3Block s M r) :
    mm3Final M.length r = mm3Digest M s := by
  rw [mm3Final, h.chain, h.partialBlock]
  rfl

/-- xxHash64's EngineFinal, after the message M. -/
theorem Absorbed.xxhFinal_eq {s : DWord} {M : List Byte} {r : EagerRegs (Vector DWord 4) 32}
    (h : Absorbed 32 xxhStripe (xxhIV s) M r) : xxhFinal s M.length r = xxhDigest M s := by
  rw [xxhFinal, h.chain, h.partialBlock]
  rfl

/-- BLAKE2b's EngineFinal compresses the block held back as the last one. -/
theorem B2bAbsorbed.blake2bFinal_eq {outlen : Nat} {c0 : Blake2bChain} {D : List Byte} {r : Blake2bRegs}
    (h : B2bAbsorbed c0 D r) : blake2bFinal outlen r =
      (leSerialize (blake2bCompress true
        (foldBlocks 128 (blake2bCompress false) c0 (D.take (128 * (blake2bBlocks D.length - 1))))
        (D.drop (128 * (blake2bBlocks D.length - 1)))).h).take outlen := by
  rw [← h.chain, blake2bCompress, List.length_drop, ← h.fill, ← h.held]
  rfl

/-- Settles O43: engine by engine, EngineFinal on the registers the streaming rule (R265, R399) leaves; a CRC's register
is the digest's own fold. -/
theorem streamingEqualsWholeMessageDigest : Obligations.StreamingEqualsWholeMessageDigest := by
  intro alg outlen cseed ckey msg dp hK
  cases alg with
  | md5 =>
    rw [foldl_engineAbsorb_md5]
    exact congrArg leSerialize (foldBlocks_padBlock_stream md5Compress (by decide) ..)
  | sha512 =>
    rw [foldl_engineAbsorb_sha512]
    exact congrArg beSerialize (foldBlocks_padBlock_stream sha512Compress (by decide) ..)
  | sha3_256 =>
    rw [foldl_engineAbsorb_sha3_256]
    exact (eager_stream sha3Absorb (by decide) sha3IV msg dp.sha3).sha3Final_eq
  | blake2b =>
    rw [foldl_engineAbsorb_blake2b]
    exact (blake2b_stream outlen ckey hK msg dp.blake2b).blake2bFinal_eq
  | ripemd160 =>
    rw [foldl_engineAbsorb_ripemd160]
    exact congrArg leSerialize (foldBlocks_padBlock_stream rmdCompress (by decide) ..)
  | tiger192 =>
    rw [foldl_engineAbsorb_tiger192]
    exact congrArg tigerSerialize (foldBlocks_padBlock_stream tigerCompress (by decide) ..)
  | crc16 => rw [foldl_engineAbsorb_crc16]; rfl
  | crc32 => rw [foldl_engineAbsorb_crc32]; rfl
  | crc64 => rw [foldl_engineAbsorb_crc64]; rfl
  | murmur3_32 =>
    rw [foldl_engineAbsorb_murmur3_32]
    exact (eager_stream mm3Block (by decide) (cseed.extractLsb' 0 32) msg dp.murmur3).mm3Final_eq
  | xxh64 =>
    rw [foldl_engineAbsorb_xxh64]
    exact (eager_stream xxhStripe (by decide) (xxhIV cseed) msg dp.xxh64).xxhFinal_eq

/-- While a computation runs, EngineFinal on the datapath is the digest of MSG. -/
theorem engineFinal_eq_digestOf {s : State} (h : StateInv s) (hp : s.phase = .active) :
    engineFinal s.alg s.outlen.toNat s.cseed s.mlen.toNat s.dp =
      digestOf s.alg s.outlen.toNat s.cseed s.ckey s.msg := by
  obtain ⟨hmlen, -⟩ := (holdsR67_iff s).mp h.r67
  obtain ⟨dp0, hdp⟩ := h.stream hp
  rw [hmlen, hdp]
  exact streamingEqualsWholeMessageDigest _ _ _ _ _ dp0 h.ckey.1

/-- Settles O44: FINAL loads the digest of MSG, which is what EngineFinal reads. -/
theorem finalEqualsEngineFinal : Obligations.FinalEqualsEngineFinal := by
  intro s h hp he
  have hlegal : outlenLegal s.alg s.outlen := h.outlen (by rw [hp]; nofun)
  refine ⟨_, congrArg Host.Outcome.next (finalise_active he hp), ?_⟩
  rw [engineFinal_eq_digestOf h hp]
  exact toList_toBuffer_digestOf hlegal s.cseed s.ckey s.msg

/-- Settles O45: the fixed length of every algorithm but BLAKE2b. -/
theorem digestHasOutlenBytes : Obligations.DigestHasOutlenBytes := by
  intro n cseed ckey msg
  have hfixed {alg : Alg} (h : alg ≠ .blake2b) := length_digestOf_fixed h n cseed ckey msg
  exact ⟨hfixed nofun, hfixed nofun, hfixed nofun, fun _ h64 => length_digestOf_blake2b h64 cseed ckey msg,
    hfixed nofun, hfixed nofun, hfixed nofun, hfixed nofun, hfixed nofun, hfixed nofun, hfixed nofun⟩

/-- Settles O46: only BLAKE2b's digest takes OUTLEN and CKEY, only the two seeded engines' takes CSEED, and
MurmurHash3's takes its low half. -/
theorem unreadConfigurationHasNoEffect : Obligations.UnreadConfigurationHasNoEffect := by
  intro alg n n' cseed cseed' ckey ckey' msg
  refine ⟨fun hb => ?_, fun hm hx => ?_, fun hlow => congrArg (mm3Digest msg) hlow⟩
  · cases alg with
    | blake2b => exact absurd rfl hb
    | _ => rfl
  · cases alg with
    | murmur3_32 => exact absurd rfl hm
    | xxh64 => exact absurd rfl hx
    | _ => rfl

end Sys2Proof.Machine
end

section
/-! Padding (R267, R268, R336): the zero fill is the least one, and the padded message is whole blocks. -/

namespace Sys2Proof.Machine

/-- The zero fill, by whether the marker leaves the target in the same block. -/
theorem padZeros_eq {C target : Nat} (ht : target < C) (len : Nat) :
    padZeros C target len =
      if (len + 1) % C ≤ target then target - (len + 1) % C else target + C - (len + 1) % C := by
  have hr := Nat.mod_lt (len + 1) (Nat.zero_lt_of_lt ht)
  unfold padZeros
  split
  · rw [Nat.sub_add_comm ‹_›, Nat.add_mod_right, Nat.mod_eq_of_lt (by omega)]
  · exact Nat.mod_eq_of_lt (by omega)

theorem add_padZeros_mod {C target : Nat} (ht : target < C) (len : Nat) :
    (len + 1 + padZeros C target len) % C = target := by
  have hr := Nat.mod_lt (len + 1) (Nat.zero_lt_of_lt ht)
  rw [← Nat.mod_add_mod, padZeros_eq ht]
  split
  · rw [Nat.add_sub_cancel' ‹_›, Nat.mod_eq_of_lt ht]
  · rw [Nat.add_sub_cancel' (by omega), Nat.add_mod_right, Nat.mod_eq_of_lt ht]

/-- No shorter fill reaches the target. -/
theorem add_mod_ne_of_lt_padZeros {C target : Nat} (ht : target < C) {len j : Nat} (hj : j < padZeros C target len) :
    (len + 1 + j) % C ≠ target := by
  have hr := Nat.mod_lt (len + 1) (Nat.zero_lt_of_lt ht)
  rw [padZeros_eq ht] at hj
  rw [← Nat.mod_add_mod]
  split at hj
  · rw [Nat.mod_eq_of_lt (by omega)]
    omega
  · by_cases hwrap : (len + 1) % C + j < C
    · rw [Nat.mod_eq_of_lt hwrap]
      omega
    · rw [Nat.mod_eq_sub_mod (Nat.not_lt.mp hwrap), Nat.mod_eq_of_lt (by omega)]
      omega

theorem length_padBlock (C target : Nat) (m : Byte) (L B : List Byte) :
    (padBlock C target m L B).length = B.length + 1 + padZeros C target B.length + L.length := by
  simp only [padBlock, List.length_append, List.length_singleton, length_zeros]

/-- The length field, byte by byte. -/
theorem bitLength64_eq (n : Nat) :
    bitLength64 n = (List.range 8).map fun j => BitVec.ofNat 8 (8 * n % 2 ^ 64 / 2 ^ (8 * j)) :=
  List.map_congr_left fun _ _ => congrArg (BitVec.ofNat 8) (Nat.shiftRight_eq_div_pow ..)

/-- The padded message is as many 64-byte blocks as R268 says. -/
theorem length_pad64 (m : Byte) (M : List Byte) : (pad64 m M).length = 64 * ((M.length + 8) / 64 + 1) := by
  have hL : (bitLength64 M.length).length = 8 := length_leBytes _
  rw [pad64, length_padBlock, hL, padZeros_eq (by decide)]
  split <;> omega

/-- Settles O47: the zero fill is `padZeros`, and the markers are those of the engines' own padding. -/
theorem pad64IsTheLeastPadding : Obligations.Pad64IsTheLeastPadding := by
  refine ⟨fun m M => ⟨padZeros 64 56 M.length, ?_, add_padZeros_mod (by decide) _,
    fun j hj => add_mod_ne_of_lt_padZeros (by decide) hj, ?_⟩, rfl, rfl, rfl⟩
  · rw [← bitLength64_eq]
    rfl
  · rw [length_pad64]
    exact Nat.mul_mod_right ..

/-- Settles O48: the boundary cases are the block count at each length. -/
theorem paddedBlockCount : Obligations.PaddedBlockCount := by
  intro m M
  have hcount : (pad64 m M).length / 64 = (M.length + 8) / 64 + 1 := by
    rw [length_pad64, Nat.mul_div_cancel_left _ (by decide)]
  refine ⟨hcount, ?_, ?_, ?_, ?_, ?_, ?_⟩ <;> (intro hlen; rw [hcount, hlen])

end Sys2Proof.Machine
end

section
/-! SHA-512's padding (R336): the 128-bit length field holds the exact bit count, and the padded message is whole blocks. -/

namespace Sys2Proof.Machine

/-- The length field, byte by byte: a bit count below 2^128 is not reduced. -/
theorem bitLength128_eq {n : Nat} (hn : 8 * n < 2 ^ 128) :
    bitLength128 n = (List.range 16).map fun j => BitVec.ofNat 8 (8 * n / 2 ^ (8 * (15 - j))) := by
  refine List.map_congr_left fun j _ => congrArg (BitVec.ofNat 8) ?_
  rw [Nat.shiftRight_eq_div_pow, BitVec.toNat_ofNat, Nat.mod_eq_of_lt hn]

/-- The block count: marker and length field take 17 bytes, and the zero fill completes the last block. -/
theorem length_sha512Pad (M : List Byte) : (sha512Pad M).length = 128 * ((M.length + 16) / 128 + 1) := by
  have hL : (bitLength128 M.length).length = 16 := length_beBytes _
  rw [sha512Pad, length_padBlock, hL, padZeros_eq (by decide)]
  split <;> omega

/-- Settles O49: the zero fill is `padZeros`, and the corner cases are the padded length at each length. -/
theorem sha512PadIsTheLeastPadding : Obligations.Sha512PadIsTheLeastPadding := by
  intro M hM
  have hbits : 8 * M.length < 2 ^ 128 := by omega
  refine ⟨padZeros 128 112 M.length, ?_, add_padZeros_mod (by decide) _,
    fun j hj => add_mod_ne_of_lt_padZeros (by decide) hj, ?_, ?_⟩
  · rw [← bitLength128_eq hbits]
    rfl
  · rw [length_sha512Pad]
    exact Nat.mul_mod_right ..
  · refine ⟨?_, ?_, ?_⟩ <;> (intro hlen; rw [length_sha512Pad, hlen])

end Sys2Proof.Machine
end

section
/-! SHA3's final block (R369 of spec/44_sha3.md): one byte of it, from which the corner cases are read off. -/

namespace Sys2Proof.Machine

theorem byteAt_of_length_le {B : List Byte} {i : Nat} (h : B.length ≤ i) : byteAt B i = 0 :=
  List.getD_eq_default _ _ h

/-- Reading past the end gives 0, so a zero fill changes no byte read. -/
theorem byteAt_append_zeros (B : List Byte) (n i : Nat) : byteAt (B ++ zeros n) i = byteAt B i := by
  by_cases hi : i < B.length
  · exact List.getD_append _ _ _ _ hi
  · rw [byteAt_of_length_le (Nat.not_lt.mp hi), byteAt, List.getD_append_right _ _ _ _ (Nat.not_lt.mp hi)]
    exact List.getElem?_getD_replicate_default_eq ..

theorem byteAt_set_same {B : List Byte} {k : Nat} (hk : k < B.length) (b : Byte) : byteAt (B.set k b) k = b := by
  simp [byteAt, hk]

theorem byteAt_set_of_ne (B : List Byte) {k i : Nat} (h : k ≠ i) (b : Byte) : byteAt (B.set k b) i = byteAt B i := by
  simp [byteAt, h]

/-- ORing a mark into byte k of a sequence. -/
theorem byteAt_set_or {B : List Byte} {k : Nat} (hk : k < B.length) (m : Byte) (i : Nat) :
    byteAt (B.set k (byteAt B k ||| m)) i = byteAt B i ||| if i = k then m else 0 := by
  by_cases h : i = k
  · rw [h, byteAt_set_same hk, if_pos rfl]
  · rw [byteAt_set_of_ne B (Ne.symm h), if_neg h]
    exact BitVec.or_zero.symm

theorem length_sha3FinalBlock {L : List Byte} (h : L.length ≤ 136) : (sha3FinalBlock L).length = 136 := by
  simp only [sha3FinalBlock, List.length_set, List.length_append, length_zeros, Nat.add_sub_cancel' h]

/-- The bytes of the final block: those buffered, zero-filled, with the two marks. -/
theorem byteAt_sha3FinalBlock {L : List Byte} (h : L.length ≤ 135) (i : Nat) :
    byteAt (sha3FinalBlock L) i =
      (byteAt L i ||| if i = L.length then 0x06 else 0) ||| if i = 135 then 0x80 else 0 := by
  have hlen : (L ++ zeros (136 - L.length)).length = 136 := by
    rw [List.length_append, length_zeros, Nat.add_sub_cancel' (by omega)]
  rw [sha3FinalBlock, byteAt_set_or (by rw [List.length_set, hlen]; decide), byteAt_set_or (by omega),
    byteAt_append_zeros]

/-- Settles O50: below 135 the two marks fall on different bytes, at 135 on the same one. -/
theorem sha3FinalBlockBytes : Obligations.Sha3FinalBlockBytes := by
  intro L h
  refine ⟨length_sha3FinalBlock (by omega), fun i hi => ?_, fun hq => ⟨?_, ?_, fun i hi hi' => ?_⟩, fun hq => ?_⟩
  · rw [byteAt_sha3FinalBlock h, if_neg (by omega), if_neg (by omega)]
    exact BitVec.or_zero.trans BitVec.or_zero
  · rw [byteAt_sha3FinalBlock h, if_pos rfl, if_neg (by omega), byteAt_of_length_le le_rfl]
    rfl
  · rw [byteAt_sha3FinalBlock h, if_neg (by omega), if_pos rfl, byteAt_of_length_le h]
    rfl
  · rw [byteAt_sha3FinalBlock h, if_neg (by omega), if_neg (by omega), byteAt_of_length_le hi.le]
    rfl
  · rw [byteAt_sha3FinalBlock h, if_pos hq.symm, if_pos rfl, byteAt_of_length_le h]
    rfl

end Sys2Proof.Machine
end

section
/-! BLAKE2b's fill count and byte counter (R399 of spec/45_blake2b.md), read off the streaming rule. -/

namespace Sys2Proof.Machine

/-- D = KB ‖ MSG has R399's N bytes. -/
theorem length_blake2bInput {K : List Byte} (hK : K.length ≤ 128) (M : List Byte) :
    (blake2bKeyBlock K ++ M).length = (if K = [] then 0 else 128) + M.length := by
  rw [List.length_append, length_blake2bKeyBlock K hK]

/-- The fill count after the input D. -/
theorem B2bAbsorbed.fill_eq {c0 : Blake2bChain} {D : List Byte} {r : Blake2bRegs} (h : B2bAbsorbed c0 D r) :
    r.fill = blake2bFill D.length :=
  h.fill.trans (blake2bFill_eq _).symm

/-- Settles O51: FILL and T after the input D = KB ‖ MSG are functions of its length N. -/
theorem blake2bFillInvariant : Obligations.Blake2bFillInvariant := by
  intro outlen cseed ckey msg dp hK hM r N
  have hN : (blake2bKeyBlock ckey ++ msg).length = N := length_blake2bInput hK msg
  have hr : r = msg.foldl blake2bAbsorb (blake2bInit outlen ckey dp.blake2b) :=
    congrArg Datapath.blake2b (foldl_engineAbsorb_blake2b msg _)
  have h := blake2b_stream outlen ckey hK msg dp.blake2b
  rw [← hr] at h
  have hfill : r.fill = blake2bFill N := hN ▸ h.fill_eq
  have hlt : (blake2bKeyBlock ckey ++ msg).length < 2 ^ 128 := by
    rw [length_blake2bInput hK]
    split <;> omega
  refine ⟨fun h0 => ?_, fun h0 => ?_, ?_⟩
  · rw [hfill, blake2bFill, if_pos h0]
  · rw [hfill, blake2bFill, if_neg h0]
  · rw [h.t_toNat rfl hlt, hN, hfill]

end Sys2Proof.Machine
end

section
/-! The CRC table ROMs against their generating loops (R504, R509 of spec/48_crc.md). -/

namespace Sys2Proof.Machine

/-- Reading at n < N a ROM that lists f's first N values. -/
theorem getD_toArray_map_range {α : Type} (f : Nat → α) {N n : Nat} (hn : n < N) (d : α) :
    ((List.range N).map f).toArray.getD n d = f n := by
  simp [Array.getD, hn]

/-- T32 lists its generated entries: R504's rows, compared with its loop as lists. -/
theorem crcT32_eq_map_crc32Entry : crcT32 = ((List.range 256).map crc32Entry).toArray :=
  congrArg List.toArray (by decide +kernel)

/-- T64 lists its generated entries: R509's rows, compared with its loop as lists. -/
theorem crcT64_eq_map_crc64Entry : crcT64 = ((List.range 256).map crc64Entry).toArray :=
  congrArg List.toArray (by decide +kernel)

/-- Settles O52: each ROM is the list of its generated entries, read at n. -/
theorem crcTablesAreGenerated : Obligations.CrcTablesAreGenerated := by
  intro n hn
  constructor
  · rw [crcT32_eq_map_crc32Entry]
    exact getD_toArray_map_range crc32Entry hn 0
  · rw [crcT64_eq_map_crc64Entry]
    exact getD_toArray_map_range crc64Entry hn 0

end Sys2Proof.Machine
end

section
/-! Errors (spec/60_exceptions.md): what raises each code, what an error discards (R609), and what clears it (R608). -/

namespace Sys2Proof.Machine

open Sys2Proof.Safety

/-- Settles O32: the two cases of ERR in one update. -/
theorem raiseWritesOnlyAClearErr : Obligations.RaiseWritesOnlyAClearErr := fun s e => raise_eq e s

/-- Settles O7: the step is `raise` on the state `takeEvent` leaves. -/
theorem stepOnIllegalWordRaisesIllegal : Obligations.StepOnIllegalWordRaisesIllegal := by
  intro s ht rest hr hp hd
  rw [step_transaction hr hp, runTransaction_illegal hd, raise_eq]
  rfl

/-- Settles O17: only BLAKE2b's INIT looks at KEYOVF, and `startComputation` carries it along. -/
theorem initWithOverlongKeyRaisesKey : Obligations.InitWithOverlongKeyRaisesKey := by
  refine ⟨fun s ol h => ?_, fun s alg ol b hb => ?_⟩
  · rw [execInit_overlong h, raise_eq]
  · exact ⟨startComputation alg ol s, execInit_start (hb ·.1), rfl, rfl,
      execInit_start (s := { s with keyovf := b }) (hb ·.1)⟩

/-! The data commands and FINAL. -/

theorem absorbBytes_discard (S : List Byte) {s : State} (he : s.err ≠ .none) : absorbBytes S s = s := if_pos he

theorem finalise_discard {s : State} (he : s.err ≠ .none) : finalise s = s := if_pos he

theorem absorbBytes_seq (S : List Byte) {s : State} (he : s.err = .none) (hp : s.phase ≠ .active) :
    absorbBytes S s = { s with err := .seq } := by
  rw [absorbBytes, if_neg (not_not.mpr he), if_pos hp, raise_clear _ _ he]

theorem finalise_seq {s : State} (he : s.err = .none) (hp : s.phase ≠ .active) :
    finalise s = { s with err := .seq } := by
  rw [finalise, if_neg (not_not.mpr he), if_pos hp, raise_clear _ _ he]

theorem absorbBytes_len {S : List Byte} {s : State} (he : s.err = .none) (hp : s.phase = .active)
    (hl : s.mlen.toNat + S.length > 2 ^ 64 - 1) : absorbBytes S s = { s with err := .len } := by
  rw [absorbBytes, if_neg (not_not.mpr he), if_neg (not_not.mpr hp), if_pos hl, raise_clear _ _ he]

/-- The instructions that R604 and R609 list are FINAL and those that carry data bytes. -/
theorem eq_final_or_dataBytes_ne_nil {i : Instr}
    (hi : i = .final ∨ (∃ b0, i = .absorb1 b0) ∨ (∃ b0 b1, i = .absorb2 b0 b1) ∨
      (∃ b0 b1 b2, i = .absorb3 b0 b1 b2) ∨ (∃ w, i = .wrDin w)) : i = .final ∨ dataBytes i ≠ [] := by
  obtain rfl | ⟨b0, rfl⟩ | ⟨b0, b1, rfl⟩ | ⟨b0, b1, b2, rfl⟩ | ⟨w, rfl⟩ := hi
  · exact .inl rfl
  all_goals exact .inr nofun

/-- Settles O24: IDLE and DONE are the phases other than ACTIVE, where AbsorbBytes and FINAL raise E_SEQ. -/
theorem dataOutsideActiveRaisesSeq : Obligations.DataOutsideActiveRaisesSeq := by
  intro s i he hp hi
  have hp : s.phase ≠ .active := by rcases hp with hp | hp <;> rw [hp] <;> nofun
  obtain rfl | hi := eq_final_or_dataBytes_ne_nil hi
  · exact congrArg Host.Outcome.next (finalise_seq he hp)
  · rw [exec_of_dataBytes hi, absorbBytes_seq _ he hp]

/-- A data command without room for its bytes absorbs none of them (R606). -/
theorem exec_past_limit {s : State} {i : Instr} (hi : dataBytes i ≠ []) (he : s.err = .none) (hp : s.phase = .active)
    (hl : s.mlen.toNat + (dataBytes i).length > 2 ^ 64 - 1) : exec i s = .next { s with err := .len } := by
  rw [exec_of_dataBytes hi, absorbBytes_len he hp hl]

/-- Settles O25: each command by the number of its bytes; E_LEN is an error, so FINAL is discarded. -/
theorem absorbPastTheLimitRaisesLen : Obligations.AbsorbPastTheLimitRaisesLen := by
  intro s b0 b1 b2 w he hp
  refine ⟨fun hl => ?_, fun hl => ?_, fun hl => ?_, fun hl => ?_, ?_⟩
  · exact exec_past_limit (i := .absorb1 b0) nofun he hp hl
  · exact exec_past_limit (i := .absorb2 b0 b1) nofun he hp hl
  · exact exec_past_limit (i := .absorb3 b0 b1 b2) nofun he hp hl
  · exact exec_past_limit (i := .wrDin w) nofun he hp hl
  · exact congrArg Host.Outcome.next (finalise_discard nofun)

/-- Settles O26: AbsorbBytes and FINAL look at ERR first. -/
theorem errorDiscardsDataAndFinal : Obligations.ErrorDiscardsDataAndFinal := by
  intro s i he hi
  obtain rfl | hi := eq_final_or_dataBytes_ne_nil hi
  · exact congrArg Host.Outcome.next (finalise_discard he)
  · rw [exec_of_dataBytes hi, absorbBytes_discard _ he]

/-! What keeps a recorded error and what clears it (R608, R610). -/

theorem raise_err_of_ne_none (e : Err) {s : State} (he : s.err ≠ .none) : (raise e s).err = s.err := by
  rw [raise_sticky e s he]

theorem busError_err_of_ne_none (ht : HT) {s : State} (he : s.err ≠ .none) : (busError ht s).err = s.err := by
  rw [busError_eq, if_neg he]

/-- Of the instructions only a successful INIT touches a recorded error. -/
theorem exec_err_of_ne_none {i : Instr} {s t : State} (h : exec i s = .next t) (he : s.err ≠ .none)
    (hi : ∀ alg ol, i = .init alg ol → alg = .blake2b ∧ s.keyovf = true) : t.err = s.err := by
  obtain ⟨-, rfl⟩ | ⟨ol, -, -, rfl⟩ | ⟨alg, ol, rfl, hk, rfl⟩ | ⟨k, imm, -, rfl⟩ | ⟨b, -, rfl⟩ | ⟨-, rfl⟩ |
    ⟨-, rfl⟩ | ⟨-, rfl⟩ | ⟨-, v, rfl⟩ | ⟨k, v, -, rfl⟩ := exec_cases h
  · rfl
  · exact raise_err_of_ne_none .key he
  · exact absurd (hi alg ol rfl) hk
  · rfl
  · exact appendKey_err b s
  · exact clearKey_err s
  · rw [absorbBytes_discard _ he]
  · rw [finalise_discard he]
  · exact respond_err v s
  · exact respond_err v s

/-- A step that is neither a reset nor a successful INIT keeps a recorded error. -/
theorem step_keeps_err {s t : State} (h : step s = .next t) (he : s.err ≠ .none) (hs : ¬startsComputation s)
    (hr : ¬resets s) : t.err = s.err := by
  obtain ⟨-, ⟨-, rfl⟩ | ⟨ht, rest, hp, h⟩ | ⟨rest, hp, -⟩ | ⟨ht, rest, hp, -⟩⟩ := step_cases h
  · rfl
  · obtain ⟨-, rfl⟩ | ⟨-, rfl⟩ | ⟨i, hd, h⟩ := runTransaction_cases h
    · exact busError_err_of_ne_none ht he
    · exact raise_err_of_ne_none .illegal he
    · refine exec_err_of_ne_none (s := takeEvent rest s) h he ?_
      rintro alg ol rfl
      exact not_not.mp fun hk => hs ⟨alg, ol, ⟨ht, rest, hp, hd⟩, hk⟩
  · exact absurd (.inl ⟨rest, hp⟩) hr
  · exact absurd (.inr ⟨ht, rest, hp⟩) hr

/-- A successful INIT clears ERR (R610). -/
theorem step_err_of_startsComputation {s t : State} (h : step s = .next t) (hs : startsComputation s) :
    t.err = .none := by
  obtain ⟨hr67, -⟩ := step_cases h
  obtain ⟨alg, ol, ⟨ht, rest, hp, hd⟩, hk⟩ := hs
  rw [step_transaction hr67 hp, runTransaction_instr hd, execInit_start (s := takeEvent rest s) hk] at h
  cases h
  exact startComputation_err ..

/-- A reset, between transactions or during one, clears ERR (R700, R701). -/
theorem step_err_of_resets {s t : State} (h : step s = .next t) (hr : resets s) : t.err = .none := by
  obtain ⟨hr67, -⟩ := step_cases h
  rw [step, if_pos hr67] at h
  obtain ⟨rest, hp⟩ | ⟨ht, rest, hp⟩ := hr
  · rw [hp] at h
    cases h
    exact resetEvent_err rest s
  · rw [hp] at h
    cases h
    exact abandonEvent_err ht rest s

/-- Settles O33: a step that clears ERR is a successful INIT or a reset, and any other keeps the code. -/
theorem recordedErrorIsSticky : Obligations.RecordedErrorIsSticky := by
  intro s t h he
  by_cases hs : startsComputation s
  · exact .inr ⟨step_err_of_startsComputation h hs, .inl hs⟩
  · by_cases hr : resets s
    · exact .inr ⟨step_err_of_resets h hr, .inr hr⟩
    · exact .inl ⟨step_keeps_err h he hs hr, hs, hr⟩

end Sys2Proof.Machine
end

section
/-! Reset (R700, R701 of spec/70_reset_and_hazards.md), between two transactions or during one, and the state it leaves. -/

namespace Sys2Proof.Machine

open Sys2Proof.Safety

/-- Settles O40: the base case of the invariant, whose streaming part asks nothing while IDLE. -/
theorem invariantHoldsAtReset : Obligations.InvariantHoldsAtReset := stateInv_reset

theorem isResetState_reset : isResetState State.reset := by
  refine ⟨rfl, rfl, rfl, rfl, rfl, rfl, rfl, rfl, fun i => ?_, rfl, rfl, rfl, rfl, fun i => ?_⟩
  · exact Vector.getElem_replicate i.isLt
  · exact Vector.getElem_replicate i.isLt

/-- R700's table is about the core's registers, so the host's events, the response and the free-value counter are free. -/
theorem isResetState_of_unread {s : State} (h : isResetState s) (pending : List HostEvent) (response : Response)
    (freeCount : Nat) :
    isResetState { s with pending := pending, response := response, freeCount := freeCount } := h

theorem isResetState_resetEvent (rest : List HostEvent) (s : State) : isResetState (resetEvent rest s) :=
  isResetState_of_unread isResetState_reset ..

theorem isResetState_abandonEvent (ht : HT) (rest : List HostEvent) (s : State) :
    isResetState (abandonEvent ht rest s) :=
  isResetState_of_unread (isResetState_resetEvent rest s) ..

/-- A step on a reset between two transactions, in a state the check accepts. -/
theorem step_reset {s : State} {rest : List HostEvent} (hr : holdsR67 s = true) (hp : s.pending = .reset :: rest) :
    step s = .next (resetEvent rest s) := by
  rw [step, if_pos hr, hp]

/-- A step on a reset during a transaction, in a state the check accepts. -/
theorem step_resetDuring {s : State} {ht : HT} {rest : List HostEvent} (hr : holdsR67 s = true)
    (hp : s.pending = .resetDuring ht :: rest) : step s = .next (abandonEvent ht rest s) := by
  rw [step, if_pos hr, hp]

/-- Settles O10: the step is `resetEvent`, whose registers are those of the reset state. -/
theorem resetEventGivesResetState : Obligations.ResetEventGivesResetState := fun s rest hr hp =>
  ⟨resetEvent rest s, step_reset hr hp, isResetState_resetEvent rest s, resetEvent_pending rest s,
    resetEvent_response rest s⟩

/-- Settles O11: the step is `abandonEvent`, which draws a word only for a read. -/
theorem resetDuringTransactionAbandonsIt : Obligations.ResetDuringTransactionAbandonsIt := by
  intro s ht rest hr hp
  refine ⟨abandonEvent ht rest s, _, step_resetDuring hr hp, isResetState_abandonEvent ht rest s,
    abandonEvent_pending ht rest s, abandonEvent_response ht rest s, ?_⟩
  rw [← htWe]
  cases htWe ht with
  | true => exact ⟨fun _ => rfl, fun _ => rfl⟩
  | false => exact ⟨nofun, nofun⟩

/-- Settles O12: STATUS, MLEN and SEED are 0 in the reset state; DOUT reads 0 outside DONE. -/
theorem resetStateReadsZero : Obligations.ResetStateReadsZero := by
  refine ⟨isResetState_reset, fun i hi => ?_⟩
  simp only [List.cons_append, List.nil_append, List.mem_cons, List.mem_map] at hi
  obtain rfl | rfl | rfl | rfl | rfl | ⟨k, -, rfl⟩ := hi
  · rfl
  · rfl
  · rfl
  · rfl
  · rfl
  · obtain ⟨-, hread⟩ := rdDoutReturnsFourDigestBytes State.reset (BitVec.ofNat 4 k)
    exact hread stateInv_reset nofun

end Sys2Proof.Machine
end

section
/-! Values the spec writes out: records of section 3.1 and intermediate values of section 2 of spec/95_test_vectors.md. -/

namespace Sys2Proof

/-- A record is decoded by recognizing it as the encoding of a well-formed instruction (R136). -/
theorem decode_of_encode_eq {ht : HT} {i : Instr} (hi : i.wellFormed = true) (he : encode i = ht) :
    decode ht = .instr i := he ▸ decodeOfEncodeIsIdentity i hi

/-- Settles O5: six records are the encodings of their instructions; the seventh asks BLAKE2b for OUTLEN 65 (R133, R135),
and the last is a write to the unmapped slot 9 (R217). -/
theorem specWordsDecode : Obligations.SpecWordsDecode := by
  refine ⟨decode_of_encode_eq rfl ?nop, decode_of_encode_eq rfl ?init, decode_of_encode_eq rfl ?ldseed,
    decode_of_encode_eq rfl ?absorb3, decode_of_encode_eq rfl ?wrDin, decode_of_encode_eq rfl ?rdDout, ?illegal, ?busErr⟩
  case illegal => exact (illegalRecordsAreExactlyTheListed _).mpr (by decide)
  case busErr => exact (busErrorsAreExactlyTheListed _).mpr (by decide)
  all_goals decide

namespace Machine

@[simp] theorem zero_rotl {w : Nat} (n : Nat) : rotl 0#w n = 0#w := by simp [rotl]

/-- mixk(0) = 0 (R541): multiplying and rotating keep 0. -/
@[simp] theorem mm3MixK_zero : mm3MixK 0#32 = 0#32 := by simp [mm3MixK]

/-- mixh(0, 0) is the additive constant alone (R541). -/
theorem mm3MixH_zero_zero : mm3MixH 0 0 = 0xE6546B64 := by simp [mm3MixH]

/-- round(0, 0) = 0 (R551): multiplying and rotating keep 0. -/
theorem xxhRound_zero_zero : xxhRound 0 0 = 0 := by simp [xxhRound]

/-- Settles O54: MD5's one step, BLAKE2b's parameter word and CRC-16's eight turns are evaluated; the mixes of 0 have their
lemmas. -/
theorem specIntermediateValues : Obligations.SpecIntermediateValues := by
  refine ⟨?md5Step, ?paramUnkeyed, ?paramKeyed, ?crc16Byte, mm3MixK_zero, mm3MixH_zero_zero, xxhRound_zero_zero⟩
  all_goals decide

end Machine
end Sys2Proof
end
